-- ==== Sys2Proof/Word.lean ====
section
/-! DEFINITION. The word types of the LPR-DMV block, at the widths rules R11, R90 and R98 of the spec give them. Every value
is unsigned (R12); arithmetic is done on naturals and narrowed at the end (R13). -/

namespace Sys2Proof

/-- One 32-bit command word (30_encoding.md R90). -/
abbrev CmdWord := BitVec 32

/-- One 64-bit response word (30_encoding.md R98). -/
abbrev RespWord := BitVec 64

/-- The 62 payload bits of a response word (30_encoding.md R98). -/
abbrev Payload := BitVec 62

/-- A pad row or column, 0 to 7 (00_scope.md R11). -/
abbrev Coord := BitVec 3

/-- A 7-bit MIDI value: a note number, a velocity, a bend range in semitones, a controller or its value (R11). -/
abbrev Midi7 := BitVec 7

/-- A 14-bit pitch-bend value, 8192 meaning no bend (R11). -/
abbrev Bend := BitVec 14

/-- A voice channel, 0 (unassigned) or 1 to 16 (R11); the five bits can also hold 17 to 31, which STAGE refuses
and no reachable state holds (assumption 17). -/
abbrev Channel := BitVec 5

/-- A voice index (R11, decision D10). -/
abbrev VoiceIdx := BitVec 4

end Sys2Proof
end

