-- ==== Sys2Proof/Config.lean ====
section
/-! DEFINITION. The implementation parameters of 00_scope.md R10: the types they have. They are fixed for the life of an
instance; a state carries the ones of its own instance (assumption 1), so that every statement holds for all of them. The
values that `State.reset` is run with, and the reference Tone ROM, stand in Machine/ToneRom.lean. -/

namespace Sys2Proof

/-- The MPE zone (R10 `CFG_ZONE`, R24). -/
inductive Zone where
  | lower
  | upper
  deriving DecidableEq, Repr

/-- The wire form of the Pitch-Bend-Sensitivity message (R10 `PBR_FORM`, R194; conflict C4 makes `single` the default). -/
inductive PbrForm where
  | single
  | triplet
  deriving DecidableEq, Repr

/-- One Tone ROM entry, 40 bits laid out limit[39:36], offset[35:32], dev[31:0] (20_memory.md R61). The source's fourth
field, the display colour, is not held in the block (R131). -/
structure Tone where
  /-- harmonic limit, an odd integer 1 to 15 -/
  limit : BitVec 4
  /-- whole semitones above the base note, 0 to 11 -/
  offset : BitVec 4
  /-- fraction of one semitone above `offset`, in units of 2^-32 semitone (R123, conflict C1) -/
  dev : BitVec 32
  deriving DecidableEq, Repr

/-- The Tone ROM: 64 entries, addressed by row*8 + col (R60, R61). -/
abbrev ToneRom := Vector Tone 64

/-- The parameters of one instance (R10). -/
structure Params where
  /-- `N`: number of voices, 1 to 14 -/
  n : Nat
  /-- `NUM_SINKS`: number of output sinks, 1 or more -/
  numSinks : Nat
  /-- `CFG_BASE_NOTE`: BASE_NOTE at reset -/
  cfgBaseNote : Midi7
  /-- `CFG_PB_RANGE`: PB_RANGE at reset, 1 to 127 -/
  cfgPbRange : Midi7
  /-- `CFG_ZONE` -/
  cfgZone : Zone
  /-- `CFG_NUMCH`: the value sent as Member Channel count -/
  cfgNumCh : Midi7
  /-- `SETTLE_TICKS`: ticks between CONNECT and the automatic initMpe, 1 to 65535 -/
  settleTicks : BitVec 16
  /-- `PBR_FORM` -/
  pbrForm : PbrForm
  /-- `TONE_ROM` -/
  toneRom : ToneRom
  deriving DecidableEq, Repr

end Sys2Proof
end

