-- ==== Sys2Proof/Machine/Calculator.lean ====
section
/-! DEFINITION. The pitch-bend calculator of the Diamond (40_tuning.md R120 to R125) and the two tables it connects, the Tone
ROM and the note cache (20_memory.md R61, R66). -/

namespace Sys2Proof.Machine

/-- One note-cache entry, 21 bits laid out note[20:14], bend[13:0] (R66). -/
structure Note where
  note : Midi7
  bend : Bend
  deriving DecidableEq, Repr

/-- The note cache: 64 entries, addressed by row*8 + col (R39, R66). -/
abbrev NoteCache := Vector Note 64

/-- The entry address of cell (row, col) in the Tone ROM and in the note cache: row*8 + col (R60). -/
def cellIndex (row col : Coord) : Fin 64 := ⟨row.toNat * 8 + col.toNat, by omega⟩

/-- `RomRead(a)` (R61). -/
def romRead (rom : ToneRom) (a : Fin 64) : Tone := rom[a]

/-- The note number of a cell, saturated at 127 (R121, conflict C3). -/
def cellNote (base : Midi7) (offset : BitVec 4) : Midi7 :=
  BitVec.ofNat 7 (min 127 (base.toNat + offset.toNat))

/-- The pitch bend of a cell (R122): the floor of the deviation over the shifted range, above the neutral 8192. With range 0,
which no reachable state holds (R23), Lean's division by zero makes it 8192 (assumption 6). -/
def cellBend (dev : BitVec 32) (range : Midi7) : Bend :=
  BitVec.ofNat 14 (dev.toNat / (range.toNat <<< 19) + 8192)

/-- What UpdateNotes writes for one Tone ROM entry (R120). -/
def cellOf (base range : Midi7) (t : Tone) : Note :=
  ⟨cellNote base t.offset, cellBend t.dev range⟩

/-- UpdateNotes as a function of the two registers and the Tone ROM (R120, R132): all 64 cells, each from its own entry. -/
def noteCache (base range : Midi7) (rom : ToneRom) : NoteCache :=
  ⟨⟨rom.toList.map (cellOf base range)⟩, by simp⟩

/-- A note-cache entry as its 21-bit word (R66). -/
def noteBits (n : Note) : BitVec 21 := n.note ++ n.bend

/-- A Tone ROM entry as its 40-bit word (R61). -/
def toneBits (t : Tone) : BitVec 40 := t.limit ++ t.offset ++ t.dev

end Sys2Proof.Machine
end

