-- ==== Sys2Proof/Machine/ToneRom.lean ====
section
/-! DEFINITION. The reference Tone ROM of the spec (20_memory.md R64, R65) and the parameter values that `State.reset` is run
with (00_scope.md R10; 95_test_vectors.md, its opening paragraph). -/

namespace Sys2Proof

/-- Row 0 of the reference image (R65). -/
def refRomRow0 : List Tone := [
  ⟨1, 0, 0x00000000⟩,
  ⟨9, 2, 0x0A02756F⟩,
  ⟨5, 3, 0xDCF68E36⟩,
  ⟨11, 5, 0x835FBA09⟩,
  ⟨3, 7, 0x05013AB7⟩,
  ⟨13, 8, 0x67C0355A⟩,
  ⟨7, 9, 0xB031BEFE⟩,
  ⟨15, 10, 0xE1F7C8EE⟩]

/-- Row 1 of the reference image (R65). -/
def refRomRow1 : List Tone := [
  ⟨9, 9, 0xF5FD8A90⟩,
  ⟨1, 0, 0x00000000⟩,
  ⟨9, 1, 0xD2F418C6⟩,
  ⟨11, 3, 0x795D4499⟩,
  ⟨3, 4, 0xFAFEC548⟩,
  ⟨13, 6, 0x5DBDBFEB⟩,
  ⟨9, 7, 0xA62F498E⟩,
  ⟨5, 8, 0xD7F5537E⟩]

/-- Row 2 of the reference image (R65). -/
def refRomRow2 : List Tone := [
  ⟨5, 8, 0x230971C9⟩,
  ⟨9, 10, 0x2D0BE739⟩,
  ⟨1, 0, 0x00000000⟩,
  ⟨11, 1, 0xA6692BD3⟩,
  ⟨5, 3, 0x280AAC81⟩,
  ⟨13, 4, 0x8AC9A724⟩,
  ⟨7, 5, 0xD33B30C7⟩,
  ⟨3, 7, 0x05013AB7⟩]

/-- Row 3 of the reference image (R65). -/
def refRomRow3 : List Tone := [
  ⟨11, 6, 0x7CA045F6⟩,
  ⟨11, 8, 0x86A2BB66⟩,
  ⟨11, 10, 0x5996D42C⟩,
  ⟨1, 0, 0x00000000⟩,
  ⟨11, 1, 0x81A180AE⟩,
  ⟨13, 2, 0xE4607B51⟩,
  ⟨11, 4, 0x2CD204F4⟩,
  ⟨15, 5, 0x5E980EE4⟩]

/-- Row 4 of the reference image (R65). -/
def refRomRow4 : List Tone := [
  ⟨3, 4, 0xFAFEC548⟩,
  ⟨3, 7, 0x05013AB7⟩,
  ⟨5, 8, 0xD7F5537E⟩,
  ⟨11, 10, 0x7E5E7F51⟩,
  ⟨1, 0, 0x00000000⟩,
  ⟨13, 1, 0x62BEFAA3⟩,
  ⟨7, 2, 0xAB308446⟩,
  ⟨5, 3, 0xDCF68E36⟩]

/-- Row 5 of the reference image (R65). -/
def refRomRow5 : List Tone := [
  ⟨13, 3, 0x983FCAA5⟩,
  ⟨13, 5, 0xA2424014⟩,
  ⟨13, 7, 0x753658DB⟩,
  ⟨13, 9, 0x1B9F84AE⟩,
  ⟨13, 10, 0x9D41055C⟩,
  ⟨1, 0, 0x00000000⟩,
  ⟨13, 1, 0x487189A3⟩,
  ⟨15, 2, 0x7A379393⟩]

/-- Row 6 of the reference image (R65). -/
def refRomRow6 : List Tone := [
  ⟨7, 2, 0x4FCE4101⟩,
  ⟨9, 4, 0x59D0B671⟩,
  ⟨7, 6, 0x2CC4CF38⟩,
  ⟨11, 7, 0xD32DFB0B⟩,
  ⟨7, 9, 0x54CF7BB9⟩,
  ⟨13, 10, 0xB78E765C⟩,
  ⟨1, 0, 0x00000000⟩,
  ⟨15, 1, 0x31C609F0⟩]

/-- Row 7 of the reference image (R65). -/
def refRomRow7 : List Tone := [
  ⟨15, 1, 0x1E083711⟩,
  ⟨5, 3, 0x280AAC81⟩,
  ⟨3, 4, 0xFAFEC548⟩,
  ⟨15, 6, 0xA167F11B⟩,
  ⟨5, 8, 0x230971C9⟩,
  ⟨15, 9, 0x85C86C6C⟩,
  ⟨15, 10, 0xCE39F60F⟩,
  ⟨1, 0, 0x00000000⟩]

/-- `REF_ROM`, the spec's chosen default of `TONE_ROM` (R64, R65), address row*8 + col. PRESUMED by the spec itself (I5,
general knowledge), assumption 12. -/
def refRom : ToneRom :=
  ⟨⟨refRomRow0 ++ refRomRow1 ++ refRomRow2 ++ refRomRow3 ++ refRomRow4 ++ refRomRow5 ++ refRomRow6 ++ refRomRow7⟩, rfl⟩

/-- The identities in the index order of R64. -/
def identityOrder : List Nat := [1, 9, 5, 11, 3, 13, 7, 15]

/-- The parameters `State.reset` is run with: those 95_test_vectors.md gives where a vector says nothing else.
DESIGN CHOICE (unsafe), assumption 2: the spec leaves every one of them to the instance. -/
def referenceParams : Params where
  n := 6
  numSinks := 2
  cfgBaseNote := 24
  cfgPbRange := 1
  cfgZone := .lower
  cfgNumCh := 15
  settleTicks := 3
  pbrForm := .single
  toneRom := refRom

end Sys2Proof
end

