-- ==== Sys2Proof/Machine/State.lean ====
section
/-! DEFINITION. The state of the LPR-DMV block (10_state.md R20), the model's own fields beside it (the instance's parameters,
the host's command sequence and its reset request), and the state after reset (70_reset_and_hazards.md R271). -/

namespace Sys2Proof.Machine

/-- One voice, 33 bits (10_state.md R32). -/
structure Voice where
  note : Midi7
  bend : Bend
  row : Coord
  col : Coord
  /-- 0 unassigned, 1 to 16 assigned -/
  channel : Channel
  taken : Bool
  deriving DecidableEq, Repr

/-- A voice after reset: note 0, no bend, coordinates (0,0), Unassigned (R32, R271). -/
def Voice.reset : Voice := ⟨0, 8192, 0, 0, 0, false⟩

/-- A MIDI message, the four kinds the block emits (42_midi_output.md R180), channels numbered from 1 (R182). -/
inductive Msg where
  | noteOn (ch : Channel) (note vel : Midi7)
  | noteOff (ch : Channel) (note vel : Midi7)
  | pitchBend (ch : Channel) (value : Bend)
  | cc (ch : Channel) (controller value : Midi7)
  deriving DecidableEq, Repr

/-- The state of the block. -/
@[ext]
structure State where
  /-- `BASE_NOTE` (R22) -/
  baseNote : Midi7
  /-- `PB_RANGE`, 1 to 127 (R23) -/
  pbRange : Midi7
  /-- `ZONE`, read-only (R24) -/
  zone : Zone
  /-- `NUM_CHANNELS`, read-only (R25) -/
  numChannels : Midi7
  /-- `FILLED` (R27) -/
  filled : Bool
  /-- `NUM_TAKEN`, 0 to N (R28) -/
  numTaken : BitVec 4
  /-- `SETTLE_CNT` (R29) -/
  settleCnt : BitVec 16
  /-- `STICKY_ERR` (R30) -/
  stickyErr : Bool
  /-- `STAGE[0..N-1]` (R31) -/
  stage : List Channel
  /-- `VOICE[0..N-1]` (R32) -/
  voices : List Voice
  /-- `Q`, head first (R33); kept as a sequence, as R34 allows (assumption 7) -/
  queue : List VoiceIdx
  /-- `NOTES[0..63]` (R39) -/
  notes : NoteCache
  /-- `RESP` (R40) -/
  resp : RespWord
  /-- `OUT[0..NUM_SINKS-1]`, each log oldest first (R41; assumption 16) -/
  out : List (List Msg)
  /-- `cmdidx`, the host's index of its next command (R21) -/
  cmdidx : Nat
  /-- the model's own: the parameters of this instance (R10, R44; assumption 1); nothing writes them -/
  params : Params
  /-- the model's own: the host's command sequence (R21; assumption 3); the word at place `cmdidx` is performed next -/
  program : List CmdWord
  /-- the model's own: the host asserts reset (R270; assumption 4) -/
  resetReq : Bool
  deriving DecidableEq, Repr

/-- Why a step stops with a fault: never. "It never diverges, never faults and never leaves the state undefined" (R256), and
"there is no fatal/unrecoverable error class in this core" (R248), so the type has no constructor. Safe (assumption 11). -/
inductive Fault where
  deriving DecidableEq, Repr

/-- Why a step is refused. -/
inductive Refusal where
  /-- Raised by exec's arm for an instruction that has no meaning yet. No arm raises it in this model. Safe: the run stops. -/
  | notModelled (mnemonic : String)
  deriving DecidableEq, Repr

/-- The state right after reset of an instance with parameters `p`, every value of R271; the host's sequence is empty and at
its start. -/
def State.resetWith (p : Params) : State where
  baseNote := p.cfgBaseNote
  pbRange := p.cfgPbRange
  zone := p.cfgZone
  numChannels := p.cfgNumCh
  filled := false
  numTaken := 0
  settleCnt := 0
  stickyErr := false
  stage := List.replicate p.n 0
  voices := List.replicate p.n Voice.reset
  queue := []
  notes := noteCache p.cfgBaseNote p.cfgPbRange p.toneRom
  resp := 0
  out := List.replicate p.numSinks []
  cmdidx := 0
  params := p
  program := []
  resetReq := false

/-- The machine right after reset (R271), as an instance with the reference parameters (assumption 2). -/
def State.reset : State := State.resetWith referenceParams

end Sys2Proof.Machine
end

