-- ==== Sys2Proof/Machine/Flags.lean ====
section
/-! DEFINITION. The block's only status indications (10_state.md R43): the status field of the response (60_exceptions.md R240)
and the sticky error bit (R247). It has no condition codes. -/

namespace Sys2Proof.Machine

/-- How a command ends (R240). -/
inductive Status where
  | ok
  | absent
  | precond
  | illegal
  deriving DecidableEq, Repr

/-- The two status bits, `RESP[63:62]` (R98, R240). -/
def statusCode : Status → BitVec 2
  | .ok => 0
  | .absent => 1
  | .precond => 2
  | .illegal => 3

/-- The statuses that set the sticky bit (R247). -/
def setsSticky : Status → Bool
  | .ok => false
  | .absent => false
  | .precond => true
  | .illegal => true

/-- `STICKY_ERR` after a command that ends with `st` (R30, R247): set by PRECOND and ILLEGAL, otherwise kept. -/
def stickyAfter (st : Status) (sticky : Bool) : Bool := if setsSticky st then true else sticky

/-- The response word (R98, R104): the status above the payload, the payload zero unless the status is OK. -/
def respWord (st : Status) (payload : Payload) : RespWord :=
  statusCode st ++ (if st = .ok then payload else 0)

/-- `RESP[63:62]` of a response word (R98). -/
def respStatus (r : RespWord) : BitVec 2 := r.extractLsb' 62 2

/-- `RESP[61:0]` of a response word (R98). -/
def respPayload (r : RespWord) : Payload := r.extractLsb' 0 62

end Sys2Proof.Machine
end

