-- ==== Sys2Proof/Machine/Operands.lean ====
section
/-! DEFINITION. How a command's operands are used: the zone's master channel (10_state.md R26) and the domain of each operand,
which the complete list of precondition checks tests (60_exceptions.md R243). No operand is scaled or sign-extended (R92). -/

namespace Sys2Proof.Machine

/-- `ZONE` as its bit: 0 Lower, 1 Upper (R24). -/
def zoneBit : Zone → BitVec 1
  | .lower => 0
  | .upper => 1

/-- `MASTER_CH`, a function of `ZONE` (R26). -/
def masterChannel : Zone → Channel
  | .lower => 1
  | .upper => 16

/-- A pitch-bend range operand is 1 to 127 (R243: SETRANGE, PBRZ, PBRV, INITMPE). -/
def rangeLegal (range : Midi7) : Bool := decide (range ≠ 0)

/-- A channel operand is 0 to 16 (R243: STAGE). -/
def channelLegal (ch : Channel) : Bool := decide (ch.toNat ≤ 16)

/-- A voice index addresses a voice of a pool of `n` (R68). -/
def indexLegal (n : Nat) (k : VoiceIdx) : Bool := decide (k.toNat < n)

/-- A channel list is no longer than the pool (R243: FILL). -/
def lengthLegal (n : Nat) (len : BitVec 4) : Bool := decide (len.toNat ≤ n)

end Sys2Proof.Machine
end

