-- ==== Sys2Proof/Machine/Ops.lean ====
section
/-! DEFINITION. The named operations over the state: one update per field, ending a command (30_encoding.md R104, 10_state.md
R21), the two raises (60_exceptions.md R241, R242), reads and writes of the index spaces (20_memory.md R60), the availability
queue (10_state.md R33), TakeCore and ReleaseCore (41_voice_pool.md R154, R155), FILL's loop (R153), UpdateNotes (40_tuning.md
R120), Emit (42_midi_output.md R186) and the reset event (70_reset_and_hazards.md R270). -/

namespace Sys2Proof.Machine

/-! ### One update per field -/

def State.setBaseNote (s : State) (v : Midi7) : State := { s with baseNote := v }
def State.setPbRange (s : State) (v : Midi7) : State := { s with pbRange := v }
def State.setFilled (s : State) (v : Bool) : State := { s with filled := v }
def State.setNumTaken (s : State) (v : BitVec 4) : State := { s with numTaken := v }
def State.setSettleCnt (s : State) (v : BitVec 16) : State := { s with settleCnt := v }
def State.setStickyErr (s : State) (v : Bool) : State := { s with stickyErr := v }
def State.setStage (s : State) (v : List Channel) : State := { s with stage := v }
def State.setVoices (s : State) (v : List Voice) : State := { s with voices := v }
def State.setQueue (s : State) (v : List VoiceIdx) : State := { s with queue := v }
def State.setNotes (s : State) (v : NoteCache) : State := { s with notes := v }
def State.setResp (s : State) (v : RespWord) : State := { s with resp := v }
def State.setOut (s : State) (v : List (List Msg)) : State := { s with out := v }
def State.setCmdidx (s : State) (v : Nat) : State := { s with cmdidx := v }
def State.setProgram (s : State) (v : List CmdWord) : State := { s with program := v }
def State.setResetReq (s : State) (v : Bool) : State := { s with resetReq := v }

/-! ### The result of a command -/

/-- What a step or a meaning answers. -/
abbrev Result := Host.Outcome State Fault Refusal

/-- The end of every command: `Respond(status, payload)` (R104), the sticky bit of that status (R247), and
`cmdidx <- cmdidx + 1`, whatever the status (R21). -/
def finish (st : Status) (payload : Payload) (s : State) : State :=
  ((s.setStickyErr (stickyAfter st s.stickyErr)).setResp (respWord st payload)).setCmdidx (s.cmdidx + 1)

/-- A command that ends OK with this payload, in the state its effects have left. -/
def answerOk (payload : Payload) (s : State) : Result := .next (finish .ok payload s)

/-- A command that ends ABSENT: no effect beyond the status (R244, R246). -/
def answerAbsent (s : State) : Result := .next (finish .absent 0 s)

/-- `raise Precond(info)` (R242), the block's answer to an operand outside its domain. `info` is recorded nowhere. -/
def raisePrecond (s : State) : Result := .next (finish .precond 0 s)

/-- `raise Illegal(info)` (R241), the block's answer to a word that is no command. The block has no trap: nothing is saved, no
mode changes, and there is no return from it (R248). -/
def raiseIllegal (s : State) : Result := .next (finish .illegal 0 s)

/-! ### The index spaces -/

/-- Voice `k` (R68). An index outside the file, which no reachable state reads (R35, R68), reads as an unassigned
voice (DESIGN CHOICE, safe, assumption 9). -/
def readVoice (s : State) (k : VoiceIdx) : Voice := s.voices.getD k.toNat Voice.reset

/-- Writing voice `k`; an index outside the file addresses no voice (R68) and writes nothing. -/
def writeVoice (s : State) (k : VoiceIdx) (v : Voice) : State := s.setVoices (s.voices.set k.toNat v)

/-- `STAGE[k]` (R31, R69). -/
def readStage (s : State) (k : VoiceIdx) : Channel := s.stage.getD k.toNat 0

/-- `STAGE[k] <- ch` (R31, R69). -/
def writeStage (s : State) (k : VoiceIdx) (ch : Channel) : State := s.setStage (s.stage.set k.toNat ch)

/-- `MemRead(NOTES, row*8 + col)` (R66). -/
def readNote (s : State) (row col : Coord) : Note := s.notes[cellIndex row col]

/-- `RomRead(row*8 + col)` (R61). -/
def readTone (s : State) (row col : Coord) : Tone := romRead s.params.toneRom (cellIndex row col)

/-- `UpdateNotes()` (R120): all 64 entries, from the current registers and the Tone ROM. -/
def updateNotes (s : State) : State := s.setNotes (noteCache s.baseNote s.pbRange s.params.toneRom)

/-! ### The availability queue -/

/-- `Enqueue(k)` (R33). -/
def enqueue (s : State) (k : VoiceIdx) : State := s.setQueue (s.queue ++ [k])

/-- `Dequeue()` (R33), with the test `|Q| > 0` every caller makes: none when the queue is empty. -/
def dequeue (s : State) : Option (VoiceIdx × State) :=
  match s.queue with
  | [] => none
  | k :: rest => some (k, s.setQueue rest)

/-! ### TakeCore, ReleaseCore and FILL's loop -/

/-- What TakeCore makes of the voice it takes: Taken, stamped, its note, bend and channel kept (R154). -/
def takenVoice (v : Voice) (row col : Coord) : Voice := { v with taken := true, row := row, col := col }

/-- What ReleaseCore makes of the voice it releases: every other field kept (R155). -/
def releasedVoice (v : Voice) : Voice := { v with taken := false }

/-- `TakeCore(row, col)` (R154): the voice taken and the state after, or none when the queue is empty. The counter has four
bits (R28); that it would wrap at 16, which no run reaches, is a DESIGN CHOICE, safe, assumption 10. -/
def takeCore (row col : Coord) (s : State) : Option (VoiceIdx × State) :=
  match dequeue s with
  | none => none
  | some (k, s₁) =>
    some (k, (writeVoice s₁ k (takenVoice (readVoice s₁ k) row col)).setNumTaken (s₁.numTaken + 1))

/-- Voice `k` is Taken with these coordinates (R155). -/
def heldAt (s : State) (row col : Coord) (k : VoiceIdx) : Bool :=
  (readVoice s k).taken && decide ((readVoice s k).row = row) && decide ((readVoice s k).col = col)

/-- The voice indices 0 to N-1, ascending. -/
def voiceIndices (s : State) : List VoiceIdx := (List.range s.params.n).map (BitVec.ofNat 4)

/-- The scan of ReleaseCore: the first Taken voice with these coordinates, in ascending index order (R155, R161). -/
def findHeld (row col : Coord) (s : State) : Option VoiceIdx := (voiceIndices s).find? (heldAt s row col)

/-- `ReleaseCore(row, col)` (R155): the voice released and the state after, or none when no Taken voice matches. -/
def releaseCore (row col : Coord) (s : State) : Option (VoiceIdx × State) :=
  match findHeld row col s with
  | none => none
  | some k =>
    some (k, (enqueue (writeVoice s k (releasedVoice (readVoice s k))) k).setNumTaken (s.numTaken - 1))

/-- One turn of FILL's loop (R153): `VOICE[k].channel <- STAGE[k]`, and `Enqueue(k)` where that channel is not 0. -/
def assignVoice (s : State) (k : VoiceIdx) : State :=
  let s₁ := writeVoice s k { readVoice s k with channel := readStage s k }
  if readStage s k = 0 then s₁ else enqueue s₁ k

/-- FILL's loop (R153): voices 0 to len-1 in ascending order. -/
def assignVoices (len : BitVec 4) (s : State) : State :=
  ((List.range len.toNat).map (BitVec.ofNat 4)).foldl assignVoice s

/-! ### The output multiplexer -/

/-- `Emit(m)` (R186): the message goes to the end of every sink's log. -/
def emit (s : State) (m : Msg) : State := s.setOut (s.out.map (fun log => log ++ [m]))

/-- Several messages, emitted in their order (R185). -/
def emitAll (ms : List Msg) (s : State) : State := ms.foldl emit s

/-! ### Reset -/

/-- The reset event (R270, R271): every state element takes its reset value, whatever the state was; the parameters are the
instance's (R44), and `cmdidx` and the host's sequence belong to the host and stay (R21). The request is served. -/
def resetEvent (s : State) : State :=
  ((State.resetWith s.params).setCmdidx s.cmdidx).setProgram s.program

end Sys2Proof.Machine
end

