-- ==== Sys2Proof/Machine/Midi.lean ====
section
/-! DEFINITION. MIDI messages (42_midi_output.md): their wire bytes (R181 to R184), the message lists of the MPE configuration
(R191 to R197) and the two voice emissions (R187, R188). -/

namespace Sys2Proof.Machine

/-- The status byte of a message kind on channel `ch`: the kind's high nibble, and channel `ch` as the low nibble `ch - 1`
(R181, R182). -/
def statusByte (kind : BitVec 8) (ch : Channel) : BitVec 8 := kind + (ch.zeroExtend 8 - 1)

/-- A 7-bit value as a data byte. -/
def dataByte (v : Midi7) : BitVec 8 := v.zeroExtend 8

/-- The low seven bits of a pitch-bend value, sent first (R72, R183). -/
def bendLsb (v : Bend) : Midi7 := v.extractLsb' 0 7

/-- The high seven bits of a pitch-bend value, sent second (R72, R183). -/
def bendMsb (v : Bend) : Midi7 := v.extractLsb' 7 7

/-- The wire bytes of a message, the status byte first, always complete: no running status (R181, R184). PRESUMED by the spec
itself (I1, general knowledge of MIDI 1.0), assumption 13. -/
def msgBytes : Msg → List (BitVec 8)
  | .noteOn ch note vel => [statusByte 0x90 ch, dataByte note, dataByte vel]
  | .noteOff ch note vel => [statusByte 0x80 ch, dataByte note, dataByte vel]
  | .pitchBend ch value => [statusByte 0xE0 ch, dataByte (bendLsb value), dataByte (bendMsb value)]
  | .cc ch controller value => [statusByte 0xB0 ch, dataByte controller, dataByte value]

/-- The Member Channel count sequence (R191): RPN LSB = 6, RPN MSB = 0, Data Entry MSB = NUM_CHANNELS. -/
def mcmMsgs (zone : Zone) (numChannels : Midi7) : List Msg :=
  [.cc (masterChannel zone) 100 6, .cc (masterChannel zone) 101 0, .cc (masterChannel zone) 6 numChannels]

/-- Mono Mode On (R192). -/
def monoMsgs (zone : Zone) : List Msg := [.cc (masterChannel zone) 126 0]

/-- Poly Mode On (R193). -/
def polyMsgs (zone : Zone) : List Msg := [.cc (masterChannel zone) 127 0]

/-- `PbrMsgs(ch, r)` (R194), in the form the parameter `PBR_FORM` gives. -/
def pbrMsgs (form : PbrForm) (ch : Channel) (range : Midi7) : List Msg :=
  match form with
  | .single => [.cc ch 6 range]
  | .triplet => [.cc ch 100 0, .cc ch 101 0, .cc ch 6 range]

/-- The messages of `InitMpeSeq(r)` (R197): those of MCM, then POLY, then PBRZ `r`. -/
def initMpeMsgs (s : State) (range : Midi7) : List Msg :=
  mcmMsgs s.zone s.numChannels ++ polyMsgs s.zone ++ pbrMsgs s.params.pbrForm (masterChannel s.zone) range

/-- `InitMpeSeq(r)` (R197). -/
def initMpeSeq (range : Midi7) (s : State) : State := emitAll (initMpeMsgs s range) s

/-- `SendNoteOn(k, vel)` (R187): the pitch bend first, then the note, both on the voice's channel. -/
def sendNoteOn (k : VoiceIdx) (vel : Midi7) (s : State) : State :=
  emitAll [.pitchBend (readVoice s k).channel (readVoice s k).bend,
    .noteOn (readVoice s k).channel (readVoice s k).note vel] s

/-- `SendNoteOff(k, vel)` (R188). -/
def sendNoteOff (k : VoiceIdx) (vel : Midi7) (s : State) : State :=
  emitAll [.noteOff (readVoice s k).channel (readVoice s k).note vel] s

/-- `setNote`: a voice's Note becomes a note-cache entry (R189). -/
def loadNote (k : VoiceIdx) (n : Note) (s : State) : State :=
  writeVoice s k { readVoice s k with note := n.note, bend := n.bend }

end Sys2Proof.Machine
end

