-- ==== Sys2Proof/Machine/Response.lean ====
section
/-! DEFINITION. The payload layouts of the response word (30_encoding.md R99 to R102), most significant field first; every bit
a layout does not name is zero (R98). -/

namespace Sys2Proof.Machine

/-- A flag as one bit. -/
def flagBit (b : Bool) : BitVec 1 := if b then 1 else 0

/-- `VoicePayload(k)` (R99): VIDX, VCH, VROW, VCOL, VTAKEN, VNOTE, VBEND, then 25 zero bits. -/
def voicePayload (s : State) (k : VoiceIdx) : Payload :=
  k ++ (readVoice s k).channel ++ (readVoice s k).row ++ (readVoice s k).col ++ flagBit (readVoice s k).taken ++
    (readVoice s k).note ++ (readVoice s k).bend ++ (0 : BitVec 25)

/-- The note payload (R100): NOTE and BEND at the places of VNOTE and VBEND. -/
def notePayload (n : Note) : Payload := (0 : BitVec 16) ++ n.note ++ n.bend ++ (0 : BitVec 25)

/-- The tone payload (R101): LIMIT, OFFSET, 22 zero bits, DEV. -/
def tonePayload (t : Tone) : Payload := t.limit ++ t.offset ++ (0 : BitVec 22) ++ t.dev

/-- The status payload (R102): NTAKEN, QLEN, FILLED, STICKY, ZONE, BASE, RANGE, NUMCH, SETTLE, then 14 zero bits. That
QLEN would be cut at 16, which no run reaches, is a DESIGN CHOICE, safe, assumption 19. -/
def statusPayload (s : State) : Payload :=
  s.numTaken ++ BitVec.ofNat 4 s.queue.length ++ flagBit s.filled ++ flagBit s.stickyErr ++ zoneBit s.zone ++ s.baseNote ++
    s.pbRange ++ s.numChannels ++ s.settleCnt ++ (0 : BitVec 14)

end Sys2Proof.Machine
end

