-- ==== Sys2Proof/Machine/Control.lean ====
section
/-! DEFINITION. The control family (43_control.md): NOP, CONNECT, DISCONNECT, TICK, RDSTAT. -/

namespace Sys2Proof.Machine

/-- NOP (R220). -/
def execNop (s : State) : Result := answerOk 0 s

/-- CONNECT (R221): schedule the automatic initMpe, superseding any pending one. -/
def execConnect (s : State) : Result := answerOk 0 (s.setSettleCnt s.params.settleTicks)

/-- DISCONNECT (R222): cancel any pending initialisation. -/
def execDisconnect (s : State) : Result := answerOk 0 (s.setSettleCnt 0)

/-- The countdown of TICK (R223): down by one while it is not 0, running initMpe with `PB_RANGE` when it reaches 0.
DEDUCED: one table of 95_test_vectors.md shows it one TICK earlier, against R223 and R226 (assumption 14). -/
def tickSettle (s : State) : State :=
  if s.settleCnt = 0 then s
  else if s.settleCnt - 1 = 0 then initMpeSeq s.pbRange (s.setSettleCnt (s.settleCnt - 1))
  else s.setSettleCnt (s.settleCnt - 1)

/-- TICK (R223). -/
def execTick (s : State) : Result := answerOk 0 (tickSettle s)

/-- RDSTAT (R224): answer the counters and the configuration; nothing is cleared. -/
def execRdstat (s : State) : Result := answerOk (statusPayload s) s

end Sys2Proof.Machine
end

