-- ==== Sys2Proof/Machine/MidiOutput.lean ====
section
/-! DEFINITION. The MIDI output family (42_midi_output.md sections 4 and 5): PRESS, UNPRESS, MCM, MONO, POLY, PBRZ, PBRV,
INITMPE. -/

namespace Sys2Proof.Machine

/-- PRESS (R189): TakeCore, load the cell's Note, sound it; ABSENT, with nothing emitted, when the queue is empty. -/
def execPress (row col : Coord) (vel : Midi7) (s : State) : Result :=
  match takeCore row col s with
  | none => answerAbsent s
  | some (k, s₁) =>
    let s₂ := sendNoteOn k vel (loadNote k (readNote s₁ row col) s₁)
    answerOk (voicePayload s₂ k) s₂

/-- UNPRESS (R190): ReleaseCore, then a Note-Off with velocity 0 for the Note the voice holds; ABSENT, with nothing emitted,
when no Taken voice has these coordinates. -/
def execUnpress (row col : Coord) (s : State) : Result :=
  match releaseCore row col s with
  | none => answerAbsent s
  | some (k, s₁) =>
    let s₂ := sendNoteOff k 0 s₁
    answerOk (voicePayload s₂ k) s₂

/-- MCM (R191): the Member Channel count sequence. -/
def execMcm (s : State) : Result := answerOk 0 (emitAll (mcmMsgs s.zone s.numChannels) s)

/-- MONO (R192). -/
def execMono (s : State) : Result := answerOk 0 (emitAll (monoMsgs s.zone) s)

/-- POLY (R193). -/
def execPoly (s : State) : Result := answerOk 0 (emitAll (polyMsgs s.zone) s)

/-- PBRZ (R195): the bend range to the zone; range 0 is a precondition violation. -/
def execPbrz (range : Midi7) (s : State) : Result :=
  if rangeLegal range then answerOk 0 (emitAll (pbrMsgs s.params.pbrForm (masterChannel s.zone) range) s)
  else raisePrecond s

/-- PBRV (R196): the bend range on one voice's channel; range 0 is a precondition violation, and then an index outside the
pool or an unassigned voice is ABSENT (R245). -/
def execPbrv (idx : VoiceIdx) (range : Midi7) (s : State) : Result :=
  if rangeLegal range then
    if indexLegal s.params.n idx && decide ((readVoice s idx).channel ≠ 0) then
      answerOk 0 (emitAll (pbrMsgs s.params.pbrForm (readVoice s idx).channel range) s)
    else answerAbsent s
  else raisePrecond s

/-- INITMPE (R198): the initMpe sequence with this range; range 0 is a precondition violation. -/
def execInitmpe (range : Midi7) (s : State) : Result :=
  if rangeLegal range then answerOk 0 (initMpeSeq range s) else raisePrecond s

end Sys2Proof.Machine
end

