-- ==== Sys2Proof/Machine/Tuning.lean ====
section
/-! DEFINITION. The tuning family (40_tuning.md section 2): SETBASE, SETRANGE, GETNOTE, ROMRD. -/

namespace Sys2Proof.Machine

/-- SETBASE (R126): store the base note and recompute the note cache. -/
def execSetbase (note : Midi7) (s : State) : Result :=
  answerOk 0 (updateNotes (s.setBaseNote note))

/-- SETRANGE (R127): store the bend range and recompute the note cache; range 0 is a precondition violation. -/
def execSetrange (range : Midi7) (s : State) : Result :=
  if rangeLegal range then answerOk 0 (updateNotes (s.setPbRange range)) else raisePrecond s

/-- GETNOTE (R128): answer one note-cache entry. -/
def execGetnote (row col : Coord) (s : State) : Result :=
  answerOk (notePayload (readNote s row col)) s

/-- ROMRD (R129): answer one Tone ROM entry. -/
def execRomrd (row col : Coord) (s : State) : Result :=
  answerOk (tonePayload (readTone s row col)) s

end Sys2Proof.Machine
end

