-- ==== Sys2Proof/Machine/VoicePool.lean ====
section
/-! DEFINITION. The voice-pool family (41_voice_pool.md): STAGE, FILL, TAKE, RELV, GETV. -/

namespace Sys2Proof.Machine

/-- STAGE (R152): write one entry of the channel list; an index outside the pool or a channel above 16 is a precondition
violation. -/
def execStage (idx : VoiceIdx) (ch : Channel) (s : State) : Result :=
  if indexLegal s.params.n idx && channelLegal ch then answerOk 0 (writeStage s idx ch) else raisePrecond s

/-- FILL (R153): establish the pool from the channel list, once; a second FILL or a list longer than the pool is a
precondition violation. -/
def execFill (len : BitVec 4) (s : State) : Result :=
  if s.filled then raisePrecond s
  else if lengthLegal s.params.n len then answerOk 0 ((assignVoices len s).setFilled true)
  else raisePrecond s

/-- TAKE (R156): TakeCore, answering the voice, or ABSENT when the queue is empty. -/
def execTake (row col : Coord) (s : State) : Result :=
  match takeCore row col s with
  | none => answerAbsent s
  | some (k, s₁) => answerOk (voicePayload s₁ k) s₁

/-- RELV (R157): ReleaseCore, answering the voice, or ABSENT when no Taken voice has these coordinates. -/
def execRelv (row col : Coord) (s : State) : Result :=
  match releaseCore row col s with
  | none => answerAbsent s
  | some (k, s₁) => answerOk (voicePayload s₁ k) s₁

/-- GETV (R158): answer one voice, in whatever state it is, or ABSENT for an index outside the pool. -/
def execGetv (idx : VoiceIdx) (s : State) : Result :=
  if indexLegal s.params.n idx then answerOk (voicePayload s idx) s else answerAbsent s

end Sys2Proof.Machine
end

