-- ==== Sys2Proof/Syntax.lean ====
section
/-! DEFINITION. The commands of LPR-DMV command set version 1, one constructor per row of 30_encoding.md R93, in the order of
their opcodes. An operand has exactly the width of its field (R91), so a value outside the field cannot be built; what an
assembler refuses (R105) is in WellFormed.lean, and an operand that fits but breaks a precondition (R96) is a legal `Instr`. -/

namespace Sys2Proof

/-- A decoded command. -/
inductive Instr where
  /-- 0x00 NOP (R220) -/
  | nop
  /-- 0x01 SETBASE note (R126) -/
  | setbase (note : Midi7)
  /-- 0x02 SETRANGE range (R127) -/
  | setrange (range : Midi7)
  /-- 0x03 GETNOTE row, col (R128) -/
  | getnote (row col : Coord)
  /-- 0x04 ROMRD row, col (R129) -/
  | romrd (row col : Coord)
  /-- 0x05 STAGE idx, ch (R152) -/
  | stage (idx : VoiceIdx) (ch : Channel)
  /-- 0x06 FILL len (R153) -/
  | fill (len : BitVec 4)
  /-- 0x07 TAKE row, col (R156) -/
  | take (row col : Coord)
  /-- 0x08 RELV row, col (R157) -/
  | relv (row col : Coord)
  /-- 0x09 GETV idx (R158) -/
  | getv (idx : VoiceIdx)
  /-- 0x0A PRESS row, col, velocity (R189) -/
  | press (row col : Coord) (vel : Midi7)
  /-- 0x0B UNPRESS row, col (R190) -/
  | unpress (row col : Coord)
  /-- 0x0C MCM (R191) -/
  | mcm
  /-- 0x0D MONO (R192) -/
  | mono
  /-- 0x0E POLY (R193) -/
  | poly
  /-- 0x0F PBRZ range (R195) -/
  | pbrz (range : Midi7)
  /-- 0x10 PBRV idx, range (R196) -/
  | pbrv (idx : VoiceIdx) (range : Midi7)
  /-- 0x11 INITMPE range (R198) -/
  | initmpe (range : Midi7)
  /-- 0x12 CONNECT (R221) -/
  | connect
  /-- 0x13 DISCONNECT (R222) -/
  | disconnect
  /-- 0x14 TICK (R223) -/
  | tick
  /-- 0x15 RDSTAT (R224) -/
  | rdstat
  deriving DecidableEq, Repr

/-- One line of assembler source (R105 to R107), its operands still unbounded numbers: a command by its mnemonic, or one of
the two pseudo-instructions. -/
inductive AsmLine where
  /-- a command of R93 with its operands, in the order of R105 -/
  | cmd (mnemonic : String) (operands : List Nat)
  /-- `FILLV c0, c1, ...` (R106) -/
  | fillv (channels : List Nat)
  /-- `WAIT n` (R107) -/
  | wait (count : Nat)
  deriving DecidableEq, Repr

end Sys2Proof
end

