-- ==== Sys2Proof/Machine/Dispatch.lean ====
section
/-! DEFINITION. The dispatch of a decoded command to its meaning, one arm per command in the order of the opcode map
(30_encoding.md R93). -/

namespace Sys2Proof.Machine

def exec (i : Instr) (s : State) : Host.Outcome State Fault Refusal :=
  match i with
  | .nop => Sys2Proof.Machine.execNop s
  | .setbase note => Sys2Proof.Machine.execSetbase note s
  | .setrange range => Sys2Proof.Machine.execSetrange range s
  | .getnote row col => Sys2Proof.Machine.execGetnote row col s
  | .romrd row col => Sys2Proof.Machine.execRomrd row col s
  | .stage idx ch => Sys2Proof.Machine.execStage idx ch s
  | .fill len => Sys2Proof.Machine.execFill len s
  | .take row col => Sys2Proof.Machine.execTake row col s
  | .relv row col => Sys2Proof.Machine.execRelv row col s
  | .getv idx => Sys2Proof.Machine.execGetv idx s
  | .press row col vel => Sys2Proof.Machine.execPress row col vel s
  | .unpress row col => Sys2Proof.Machine.execUnpress row col s
  | .mcm => Sys2Proof.Machine.execMcm s
  | .mono => Sys2Proof.Machine.execMono s
  | .poly => Sys2Proof.Machine.execPoly s
  | .pbrz range => Sys2Proof.Machine.execPbrz range s
  | .pbrv idx range => Sys2Proof.Machine.execPbrv idx range s
  | .initmpe range => Sys2Proof.Machine.execInitmpe range s
  | .connect => Sys2Proof.Machine.execConnect s
  | .disconnect => Sys2Proof.Machine.execDisconnect s
  | .tick => Sys2Proof.Machine.execTick s
  | .rdstat => Sys2Proof.Machine.execRdstat s

end Sys2Proof.Machine
end

