-- ==== Sys2Proof/Decode.lean ====
section
/-! DEFINITION. Decoding a command word (30_encoding.md R90 to R97), and the encoder. Decoding is total: every 32-bit word is
one command or is rejected by name, and the block answers ILLEGAL to every rejected word (R94, R95). -/

namespace Sys2Proof

/-- Why a word is no command of the set. Both end with status ILLEGAL (60_exceptions.md R241). -/
inductive Reject where
  /-- `OP` is in 0x16 to 0x3F (R95) -/
  | unassignedOpcode
  /-- a bit outside `OP` and the command's used fields is set (R94) -/
  | reservedBitSet
  deriving DecidableEq, Repr

/-! The fields of a command word, at the same place for every opcode (R91), zero-extended and never scaled (R92). -/

/-- `OP = w[31:26]` -/
def fieldOp (w : CmdWord) : BitVec 6 := w.extractLsb' 26 6
/-- `ROW = w[25:23]` -/
def fieldRow (w : CmdWord) : Coord := w.extractLsb' 23 3
/-- `COL = w[22:20]` -/
def fieldCol (w : CmdWord) : Coord := w.extractLsb' 20 3
/-- `IMM = w[19:13]` -/
def fieldImm (w : CmdWord) : Midi7 := w.extractLsb' 13 7
/-- `IDX = w[12:9]` -/
def fieldIdx (w : CmdWord) : VoiceIdx := w.extractLsb' 9 4
/-- `CH = w[8:4]` -/
def fieldCh (w : CmdWord) : Channel := w.extractLsb' 4 5
/-- `LEN = w[3:0]` -/
def fieldLen (w : CmdWord) : BitVec 4 := w.extractLsb' 0 4

/-- One row of the opcode map (R93): the word `w` is the row's command when `w &&& mask = pattern`. -/
structure OpRow where
  mnemonic : String
  pattern : CmdWord
  mask : CmdWord
  /-- the command, its operands read from the fields the row uses -/
  build : CmdWord → Instr

/-- The opcode map of R93; the row of opcode `op` stands at place `op`. -/
def opcodeTable : List OpRow := [
  ⟨"NOP",        0x00000000, 0xFFFFFFFF, fun _ => .nop⟩,
  ⟨"SETBASE",    0x04000000, 0xFFF01FFF, fun w => .setbase (fieldImm w)⟩,
  ⟨"SETRANGE",   0x08000000, 0xFFF01FFF, fun w => .setrange (fieldImm w)⟩,
  ⟨"GETNOTE",    0x0C000000, 0xFC0FFFFF, fun w => .getnote (fieldRow w) (fieldCol w)⟩,
  ⟨"ROMRD",      0x10000000, 0xFC0FFFFF, fun w => .romrd (fieldRow w) (fieldCol w)⟩,
  ⟨"STAGE",      0x14000000, 0xFFFFE00F, fun w => .stage (fieldIdx w) (fieldCh w)⟩,
  ⟨"FILL",       0x18000000, 0xFFFFFFF0, fun w => .fill (fieldLen w)⟩,
  ⟨"TAKE",       0x1C000000, 0xFC0FFFFF, fun w => .take (fieldRow w) (fieldCol w)⟩,
  ⟨"RELV",       0x20000000, 0xFC0FFFFF, fun w => .relv (fieldRow w) (fieldCol w)⟩,
  ⟨"GETV",       0x24000000, 0xFFFFE1FF, fun w => .getv (fieldIdx w)⟩,
  ⟨"PRESS",      0x28000000, 0xFC001FFF, fun w => .press (fieldRow w) (fieldCol w) (fieldImm w)⟩,
  ⟨"UNPRESS",    0x2C000000, 0xFC0FFFFF, fun w => .unpress (fieldRow w) (fieldCol w)⟩,
  ⟨"MCM",        0x30000000, 0xFFFFFFFF, fun _ => .mcm⟩,
  ⟨"MONO",       0x34000000, 0xFFFFFFFF, fun _ => .mono⟩,
  ⟨"POLY",       0x38000000, 0xFFFFFFFF, fun _ => .poly⟩,
  ⟨"PBRZ",       0x3C000000, 0xFFF01FFF, fun w => .pbrz (fieldImm w)⟩,
  ⟨"PBRV",       0x40000000, 0xFFF001FF, fun w => .pbrv (fieldIdx w) (fieldImm w)⟩,
  ⟨"INITMPE",    0x44000000, 0xFFF01FFF, fun w => .initmpe (fieldImm w)⟩,
  ⟨"CONNECT",    0x48000000, 0xFFFFFFFF, fun _ => .connect⟩,
  ⟨"DISCONNECT", 0x4C000000, 0xFFFFFFFF, fun _ => .disconnect⟩,
  ⟨"TICK",       0x50000000, 0xFFFFFFFF, fun _ => .tick⟩,
  ⟨"RDSTAT",     0x54000000, 0xFFFFFFFF, fun _ => .rdstat⟩]

/-- Decoding one command word (R97). -/
def decode (w : CmdWord) : Except Reject Instr :=
  match opcodeTable[(fieldOp w).toNat]? with
  | none => .error .unassignedOpcode
  | some r => if w &&& r.mask = r.pattern then .ok (r.build w) else .error .reservedBitSet

/-- The instruction the decoder reads from the word `w` of `nbits` bits, every bit above `nbits` being 0. -/
def decodeTableWord (nbits w : Nat) : Option Instr :=
  (decode (BitVec.ofNat 32 (w % 2 ^ nbits))).toOption

/-- A command word from its seven fields, the most significant first (R91). -/
def packWord (op : BitVec 6) (row col : Coord) (imm : Midi7) (idx : VoiceIdx) (ch : Channel) (len : BitVec 4) : CmdWord :=
  op ++ row ++ col ++ imm ++ idx ++ ch ++ len

/-- The opcode of a command (R93). -/
def opcodeOf : Instr → BitVec 6
  | .nop => 0x00
  | .setbase _ => 0x01
  | .setrange _ => 0x02
  | .getnote _ _ => 0x03
  | .romrd _ _ => 0x04
  | .stage _ _ => 0x05
  | .fill _ => 0x06
  | .take _ _ => 0x07
  | .relv _ _ => 0x08
  | .getv _ => 0x09
  | .press _ _ _ => 0x0A
  | .unpress _ _ => 0x0B
  | .mcm => 0x0C
  | .mono => 0x0D
  | .poly => 0x0E
  | .pbrz _ => 0x0F
  | .pbrv _ _ => 0x10
  | .initmpe _ => 0x11
  | .connect => 0x12
  | .disconnect => 0x13
  | .tick => 0x14
  | .rdstat => 0x15

/-- The word of a command: its opcode, its operands in the fields it uses (R93), zero in every other field (R94). -/
def encode (i : Instr) : CmdWord :=
  match i with
  | .nop | .mcm | .mono | .poly | .connect | .disconnect | .tick | .rdstat => packWord (opcodeOf i) 0 0 0 0 0 0
  | .setbase imm | .setrange imm | .pbrz imm | .initmpe imm => packWord (opcodeOf i) 0 0 imm 0 0 0
  | .getnote row col | .romrd row col | .take row col | .relv row col | .unpress row col =>
    packWord (opcodeOf i) row col 0 0 0 0
  | .press row col vel => packWord (opcodeOf i) row col vel 0 0 0
  | .stage idx ch => packWord (opcodeOf i) 0 0 0 idx ch 0
  | .fill len => packWord (opcodeOf i) 0 0 0 0 0 len
  | .getv idx => packWord (opcodeOf i) 0 0 0 idx 0 0
  | .pbrv idx imm => packWord (opcodeOf i) 0 0 imm idx 0 0

end Sys2Proof
end

