-- ==== Sys2Proof/Machine/Port.lean ====
section
/-! DEFINITION. The command port: which word the block performs next, and a word put there (10_state.md R21, 00_scope.md
R18). The block fetches nothing; the host's sequence and its index stand in for the host. -/

namespace Sys2Proof.Machine

/-- The next command word of the host's sequence, none where the host has issued no further one (R21). -/
def nextWord (s : State) : Option CmdWord := s.program[s.cmdidx]?

/-- A host sequence whose word at place `k` is `w` and which is otherwise `ws`, filled up with NOP words where it was shorter. -/
def placeWord : List CmdWord → Nat → CmdWord → List CmdWord
  | [], 0, w => [w]
  | _ :: ws, 0, w => w :: ws
  | [], k + 1, w => 0 :: placeWord [] k w
  | v :: ws, k + 1, w => v :: placeWord ws k w

end Sys2Proof.Machine
end

