-- ==== Sys2Proof/Machine/Step.lean ====
section
/-! DEFINITION. One step of the model: the reset event where the host asserts it (70_reset_and_hazards.md R270), otherwise the
next command word of the host, performed to completion (00_scope.md R18, 20_memory.md R75). -/

namespace Sys2Proof.Machine

/-- One step. With no reset asserted and no command issued the block is idle and its state holds (R255, R273;
assumption 5). A word the decoder rejects ends ILLEGAL (R241). -/
def step (s : State) : Host.Outcome State Fault Refusal :=
  if s.resetReq then .next (resetEvent s)
  else
    match nextWord s with
    | none => .next s
    | some w =>
      match decode w with
      | .ok i => exec i s
      | .error _ => raiseIllegal s

/-- The state `s` where the host's next command is the word `w` of `nbits` bits, and no reset is asserted (assumption 3). -/
def State.withFetchWord (s : State) (nbits w : Nat) : State :=
  (s.setProgram (placeWord s.program s.cmdidx (BitVec.ofNat 32 (w % 2 ^ nbits)))).setResetReq false

end Sys2Proof.Machine
end

