-- ==== Sys2Proof/WellFormed.lean ====
section
/-! DEFINITION. What is well formed: the parameters of an instance (00_scope.md R10), the Tone ROM (20_memory.md R63), and a
line of assembler source (30_encoding.md R105 to R107). An `Instr` needs no check of its own: its operands have the widths of
their fields, so every `Instr` is encodable. -/

namespace Sys2Proof

/-- R63 item 2: `limit` odd (1 to 15), `offset` 0 to 11; `dev` has 32 bits by its type. -/
def Tone.wf (t : Tone) : Bool :=
  decide (t.limit.toNat % 2 = 1) && decide (t.offset.toNat ≤ 11)

/-- The unison entry of R63 item 1. -/
def Tone.unison : Tone := ⟨1, 0, 0⟩

/-- R63 item 3, one cell: the offset it must have and the half-open interval of its deviation. -/
def Tone.between (t : Tone) (offset lo hi : Nat) : Bool :=
  decide (t.offset.toNat = offset) && decide (lo ≤ t.dev.toNat) && decide (t.dev.toNat < hi)

/-- R63: an admissible Tone ROM. Cells (0,1), (0,2) and (0,4) stand at addresses 1, 2 and 4. -/
def ToneRom.wf (rom : ToneRom) : Bool :=
  rom.toList.all Tone.wf &&
  (List.range 8).all (fun i => decide (rom.toList[i * 8 + i]? = some Tone.unison)) &&
  rom[1].between 2 167772160 168296448 &&
  rom[2].between 3 3706716160 3707240448 &&
  rom[4].between 7 83886080 84410368

/-- R10: the ranges of the parameters. `CFG_BASE_NOTE`, `CFG_ZONE`, `CFG_NUMCH` and `PBR_FORM` have no value outside theirs. -/
def Params.wf (p : Params) : Bool :=
  decide (1 ≤ p.n) && decide (p.n ≤ 14) &&
  decide (1 ≤ p.numSinks) &&
  decide (p.cfgPbRange ≠ 0) &&
  decide (p.settleTicks ≠ 0) &&
  ToneRom.wf p.toneRom

/-- The operand list of one group of mnemonics (R105), as the bit widths of the operands in their order. -/
def operandWidths (mnemonic : String) : Option (List Nat) :=
  if mnemonic ∈ ["SETBASE", "SETRANGE", "PBRZ", "INITMPE"] then some [7]
  else if mnemonic ∈ ["GETNOTE", "ROMRD", "TAKE", "RELV", "UNPRESS"] then some [3, 3]
  else if mnemonic = "PRESS" then some [3, 3, 7]
  else if mnemonic = "STAGE" then some [4, 5]
  else if mnemonic = "FILL" then some [4]
  else if mnemonic = "GETV" then some [4]
  else if mnemonic = "PBRV" then some [4, 7]
  else if mnemonic ∈ ["NOP", "MCM", "MONO", "POLY", "CONNECT", "DISCONNECT", "TICK", "RDSTAT"] then some []
  else none

/-- As many operands as fields, each below 2 to the width of its field (R105: an assembler refuses an operand that does not fit
its field). -/
def operandsFit : List Nat → List Nat → Bool
  | [], [] => true
  | w :: ws, v :: vs => decide (v < 2 ^ w) && operandsFit ws vs
  | _, _ => false

/-- A line an assembler for a block of `n` voices accepts: a known mnemonic with operands that fit (R105), a FILLV list no
longer than the pool whose channels fit the channel field (R106), or any WAIT (R107). -/
def AsmLine.wf (n : Nat) : AsmLine → Bool
  | .cmd m vs => (operandWidths m).any (fun ws => operandsFit ws vs)
  | .fillv cs => decide (cs.length ≤ n) && cs.all (fun c => decide (c < 2 ^ 5))
  | .wait _ => true

end Sys2Proof
end

