-- ==== Sys2Proof/Machine/Assembler.lean ====
section
/-! DEFINITION. The assembler syntax of the spec (30_encoding.md R105) and its two pseudo-instructions (R106, R107), from text
to command words. -/

namespace Sys2Proof.Machine

/-! ### Commands from mnemonic and operands -/

/-- The command of a mnemonic and its operands in the order of R105; none for a mnemonic that does not take so many. -/
def instrOf (m : String) (operands : List Nat) : Option Instr :=
  match operands with
  | [] =>
    if m = "NOP" then some .nop
    else if m = "MCM" then some .mcm
    else if m = "MONO" then some .mono
    else if m = "POLY" then some .poly
    else if m = "CONNECT" then some .connect
    else if m = "DISCONNECT" then some .disconnect
    else if m = "TICK" then some .tick
    else if m = "RDSTAT" then some .rdstat
    else none
  | [a] =>
    if m = "SETBASE" then some (.setbase (BitVec.ofNat 7 a))
    else if m = "SETRANGE" then some (.setrange (BitVec.ofNat 7 a))
    else if m = "PBRZ" then some (.pbrz (BitVec.ofNat 7 a))
    else if m = "INITMPE" then some (.initmpe (BitVec.ofNat 7 a))
    else if m = "FILL" then some (.fill (BitVec.ofNat 4 a))
    else if m = "GETV" then some (.getv (BitVec.ofNat 4 a))
    else none
  | [a, b] =>
    if m = "GETNOTE" then some (.getnote (BitVec.ofNat 3 a) (BitVec.ofNat 3 b))
    else if m = "ROMRD" then some (.romrd (BitVec.ofNat 3 a) (BitVec.ofNat 3 b))
    else if m = "TAKE" then some (.take (BitVec.ofNat 3 a) (BitVec.ofNat 3 b))
    else if m = "RELV" then some (.relv (BitVec.ofNat 3 a) (BitVec.ofNat 3 b))
    else if m = "UNPRESS" then some (.unpress (BitVec.ofNat 3 a) (BitVec.ofNat 3 b))
    else if m = "STAGE" then some (.stage (BitVec.ofNat 4 a) (BitVec.ofNat 5 b))
    else if m = "PBRV" then some (.pbrv (BitVec.ofNat 4 a) (BitVec.ofNat 7 b))
    else none
  | [a, b, c] =>
    if m = "PRESS" then some (.press (BitVec.ofNat 3 a) (BitVec.ofNat 3 b) (BitVec.ofNat 7 c)) else none
  | _ => none

/-- `FILLV c0, ..., c(L-1)`: STAGE for each channel in turn, then FILL L (R106). -/
def fillvInstrs (channels : List Nat) : List Instr :=
  channels.zipIdx.map (fun ck => .stage (BitVec.ofNat 4 ck.2) (BitVec.ofNat 5 ck.1)) ++
    [.fill (BitVec.ofNat 4 channels.length)]

/-- The commands a line stands for on a block of `n` voices; none where the assembler refuses the line (R105). -/
def lineInstrs (n : Nat) (l : AsmLine) : Option (List Instr) :=
  if l.wf n then
    match l with
    | .cmd m vs => (instrOf m vs).map (fun i => [i])
    | .fillv cs => some (fillvInstrs cs)
    | .wait k => some (List.replicate k .tick)
  else none

/-- The words a line assembles to. -/
def assembleLine (n : Nat) (l : AsmLine) : Option (List CmdWord) :=
  (lineInstrs n l).map (fun is => is.map encode)

/-! ### Text -/

/-- A space or a tab. What R105 leaves open of the text is a DESIGN CHOICE, safe, assumption 18. -/
def isBlank (c : Char) : Bool := c == ' ' || c == '\t'

/-- The characters without the blanks before and after them. -/
def trimBlanks (cs : List Char) : List Char :=
  ((cs.dropWhile isBlank).reverse.dropWhile isBlank).reverse

/-- The value of a hexadecimal digit. -/
def digitValue (c : Char) : Option Nat :=
  if '0' ≤ c ∧ c ≤ '9' then some (c.toNat - '0'.toNat)
  else if 'a' ≤ c ∧ c ≤ 'f' then some (c.toNat - 'a'.toNat + 10)
  else if 'A' ≤ c ∧ c ≤ 'F' then some (c.toNat - 'A'.toNat + 10)
  else none

/-- Digits in base `base`, the most significant first, after the value `acc`. -/
def readDigits (base : Nat) : Nat → List Char → Option Nat
  | acc, [] => some acc
  | acc, c :: cs =>
    match digitValue c with
    | none => none
    | some d => if d < base then readDigits base (acc * base + d) cs else none

/-- A decimal or `0x` number (R105); none for anything else, the empty text among it. -/
def readNumber (cs : List Char) : Option Nat :=
  match cs with
  | [] => none
  | '0' :: 'x' :: [] => none
  | '0' :: 'x' :: ds => readDigits 16 0 ds
  | ds => readDigits 10 0 ds

/-- The pieces between the characters equal to `sep`; always at least one. -/
def splitAtChar (sep : Char) : List Char → List (List Char)
  | [] => [[]]
  | c :: cs =>
    if c = sep then [] :: splitAtChar sep cs
    else
      match splitAtChar sep cs with
      | [] => [[c]]
      | p :: ps => (c :: p) :: ps

/-- Comma-separated operands; no text, no operand (R105, R106). -/
def readOperands (cs : List Char) : Option (List Nat) :=
  if trimBlanks cs = [] then some []
  else (splitAtChar ',' cs).mapM (fun p => readNumber (trimBlanks p))

/-- One line of source: a comment runs from `;` to its end, a line with nothing else is empty (R105). None: not a line of the
syntax. -/
def readLine (cs : List Char) : Option (List AsmLine) :=
  let body := trimBlanks (cs.takeWhile (fun c => c ≠ ';'))
  if body = [] then some []
  else
    let m := String.ofList (body.takeWhile (fun c => !isBlank c))
    (readOperands (body.dropWhile (fun c => !isBlank c))).bind (fun vs =>
      if m = "FILLV" then some [.fillv vs]
      else if m = "WAIT" then
        match vs with
        | [k] => some [.wait k]
        | _ => none
      else some [.cmd m vs])

/-- The words of a source text, one command a line (R105); none where a line is refused. -/
def assembleText (n : Nat) (source : List Char) : Option (List CmdWord) :=
  ((splitAtChar '\n' source).mapM (fun line =>
    (readLine line).bind (fun ls => (ls.mapM (assembleLine n)).map List.flatten))).map List.flatten

end Sys2Proof.Machine
end

