-- ==== Sys2Proof/Machine/Ring.lean ====
section
/-! DEFINITION. The ring buffer the availability queue is stored in (10_state.md R34, 20_memory.md R60 `QSTORE`, R70): N+1
slots, a head and a tail. Its slot contents and its pointers are hidden, so the state keeps the sequence `Q` alone, as R34 says
a model may; this file gives the ring itself, for the statement that it behaves as that sequence. -/

namespace Sys2Proof.Machine

/-- The ring: slots 0 to N, head and tail each 0 to N (R34). -/
structure Ring where
  slots : List VoiceIdx
  head : Nat
  tail : Nat
  deriving DecidableEq, Repr

/-- The shape of the ring of a pool of `n` voices (R34). -/
abbrev ringWf (n : Nat) (r : Ring) : Prop := r.slots.length = n + 1 ∧ r.head ≤ n ∧ r.tail ≤ n

/-- The ring after reset: head = tail = 0 (R271). The slots' contents are never read before they are written (P17). -/
def ringReset (n : Nat) : Ring := ⟨List.replicate (n + 1) 0, 0, 0⟩

/-- `Enqueue`: write at the tail and advance it modulo N+1 (R34). -/
def ringEnqueue (r : Ring) (k : VoiceIdx) : Ring :=
  { r with slots := r.slots.set r.tail k, tail := (r.tail + 1) % r.slots.length }

/-- `Dequeue`: read at the head and advance it modulo N+1; none where head = tail (R34). -/
def ringDequeue (r : Ring) : Option (VoiceIdx × Ring) :=
  if r.head = r.tail then none
  else some (r.slots.getD r.head 0, { r with head := (r.head + 1) % r.slots.length })

/-- The number of indices the ring holds. -/
def ringLength (r : Ring) : Nat := (r.tail + r.slots.length - r.head) % r.slots.length

/-- The sequence the ring stands for, head first (R33, R34). -/
def ringSeq (r : Ring) : List VoiceIdx :=
  (List.range (ringLength r)).map (fun j => r.slots.getD ((r.head + j) % r.slots.length) 0)

/-- One use of the queue. -/
inductive QueueOp where
  | enqueue (k : VoiceIdx)
  | dequeue
  deriving DecidableEq, Repr

/-- One use of the sequence (R33): the index a dequeue returns, and the sequence after. -/
def seqOp (q : List VoiceIdx) : QueueOp → Option VoiceIdx × List VoiceIdx
  | .enqueue k => (none, q ++ [k])
  | .dequeue => (q.head?, q.tail)

/-- The same use of the ring (R34). -/
def ringOp (r : Ring) : QueueOp → Option VoiceIdx × Ring
  | .enqueue k => (none, ringEnqueue r k)
  | .dequeue =>
    match ringDequeue r with
    | none => (none, r)
    | some (k, r') => (some k, r')

/-- What a run of uses answers on the sequence. -/
def seqAnswers : List VoiceIdx → List QueueOp → List (Option VoiceIdx)
  | _, [] => []
  | q, op :: ops => (seqOp q op).1 :: seqAnswers (seqOp q op).2 ops

/-- What the same run answers on the ring. -/
def ringAnswers : Ring → List QueueOp → List (Option VoiceIdx)
  | _, [] => []
  | r, op :: ops => (ringOp r op).1 :: ringAnswers (ringOp r op).2 ops

/-- A run that never makes the sequence longer than `n` (R70). -/
def staysWithin (n : Nat) : List VoiceIdx → List QueueOp → Bool
  | q, [] => decide (q.length ≤ n)
  | q, op :: ops => decide (q.length ≤ n) && staysWithin n (seqOp q op).2 ops

end Sys2Proof.Machine
end

