-- ==== Sys2Proof/Safety.lean ====
section
/-! DEFINITION. The terms the claims are stated in: what performing commands gives, the invariants of the spec (10_state.md
section 6, 20_memory.md R67, 40_tuning.md R130, 42_midi_output.md R180, R200), which status a command ends with
(60_exceptions.md R243 to R245), and the host's duty (70_reset_and_hazards.md R277). -/

namespace Sys2Proof.Machine

/-! ### Performing commands -/

/-- The state an answer leaves; a fault or a refusal, which no command of this block gives, leaves `s`. -/
def stateOf (s : State) (r : Result) : State :=
  match r with
  | .next t => t
  | .fault _ => s
  | .refused _ => s

/-- The state after a decoded command. -/
def after (i : Instr) (s : State) : State := stateOf s (exec i s)

/-- The state after a command word, legal or not (R256). -/
def perform (w : CmdWord) (s : State) : State :=
  match decode w with
  | .ok i => after i s
  | .error _ => stateOf s (raiseIllegal s)

/-- The state after several decoded commands, in their order (R79). -/
def runInstrs : List Instr → State → State
  | [], s => s
  | i :: is, s => runInstrs is (after i s)

/-- What a host observes of a sequence of words: the responses in their order, and the logs of the sinks (R18). -/
def observe : List CmdWord → State → List RespWord × List (List Msg)
  | [], s => ([], s.out)
  | w :: ws, s =>
    let t := perform w s
    (t.resp :: (observe ws t).1, (observe ws t).2)

/-- The voice index a voice response reports (VIDX, R99). -/
def reportedVoice (r : RespWord) : VoiceIdx := r.extractLsb' 58 4

/-- The voice indices (VIDX, R99) that TAKE answers at each pair of coordinates in turn. -/
def takenIndices : List (Coord × Coord) → State → List VoiceIdx
  | [], _ => []
  | rc :: rest, s =>
    let t := after (.take rc.1 rc.2) s
    reportedVoice t.resp :: takenIndices rest t

/-- The automatic initMpe fires at this command: a TICK that brings SETTLE_CNT from 1 to 0 (R223, R226). -/
def initFires (i : Instr) (s : State) : Bool := decide (i = .tick) && decide (s.settleCnt = 1)

/-- How often it fires in a run of commands. -/
def firings : List Instr → State → Nat
  | [], _ => 0
  | i :: is, s => (if initFires i s then 1 else 0) + firings is (after i s)

/-- A state of an instance with parameters `p` that some host brings about: by reset, by steps, and by what a host does
between steps (it gives its command sequence and it asserts reset). -/
inductive Reachable (p : Params) : State → Prop where
  | reset : Reachable p (State.resetWith p)
  | step {s t : State} : Reachable p s → step s = .next t → Reachable p t
  | hostWrites {s : State} (ws : List CmdWord) : Reachable p s → Reachable p (s.setProgram ws)
  | hostResets {s : State} : Reachable p s → Reachable p (s.setResetReq true)

/-! ### Invariants -/

/-- The index spaces of R60 have their sizes: N voices, N staging entries, one log per sink. (The note cache and the Tone ROM
have 64 entries by their types.) The block has no byte-addressed memory (R60, R71), so this is the form its storage keeps
(assumption 8). -/
abbrev Memory.wf (s : State) : Prop :=
  s.voices.length = s.params.n ∧ s.stage.length = s.params.n ∧ s.out.length = s.params.numSinks

/-- `canTake(k)` for a voice of the pool (R151): the voice is Free (R150). -/
abbrev isFree (s : State) (k : VoiceIdx) : Prop :=
  k.toNat < s.params.n ∧ (readVoice s k).channel ≠ 0 ∧ (readVoice s k).taken = false

/-- A voice of the pool is Taken (R150). -/
abbrev isTaken (s : State) (k : VoiceIdx) : Prop :=
  k.toNat < s.params.n ∧ (readVoice s k).taken = true

/-- R35: an index is in `Q` if and only if its voice is Free, and then exactly once. -/
abbrev queueHoldsFree (s : State) : Prop :=
  (∀ k : VoiceIdx, k ∈ s.queue ↔ isFree s k) ∧ s.queue.Nodup

/-- The number of Taken voices. -/
def takenCount (s : State) : Nat := (voiceIndices s).countP (fun k => (readVoice s k).taken)

/-- The number of voices with a channel. -/
def assignedCount (s : State) : Nat := (voiceIndices s).countP (fun k => decide ((readVoice s k).channel ≠ 0))

/-- The pool invariants: sizes, R35, R36, R150 (a Taken voice has a channel), and what makes FILL keep them (R153: while
`FILLED` is 0 every voice is Unassigned). -/
structure PoolInv (s : State) : Prop where
  sizes : Memory.wf s
  voicesAtMost14 : s.params.n ≤ 14
  queueFree : queueHoldsFree s
  takenAssigned : ∀ k : VoiceIdx, (readVoice s k).taken = true → (readVoice s k).channel ≠ 0
  numTaken : s.numTaken.toNat = takenCount s
  unfilled : s.filled = false → ∀ k : VoiceIdx, (readVoice s k).channel = 0

/-- The tuning invariants: R23 (the range is never 0) and R67 (the cache is the function of the registers and the ROM). -/
structure TuningInv (s : State) : Prop where
  rangeNotZero : s.pbRange ≠ 0
  cacheCurrent : s.notes = noteCache s.baseNote s.pbRange s.params.toneRom

/-- The read-only registers and the countdown: R24, R25, R29. -/
structure ControlInv (s : State) : Prop where
  zoneFixed : s.zone = s.params.cfgZone
  numChannelsFixed : s.numChannels = s.params.cfgNumCh
  settleAtMost : s.settleCnt.toNat ≤ s.params.settleTicks.toNat

/-- Channels in the staging file and the voice file are 0 to 16 (R31, R32). -/
structure ChannelInv (s : State) : Prop where
  stage : ∀ k : VoiceIdx, (readStage s k).toNat ≤ 16
  voice : ∀ k : VoiceIdx, (readVoice s k).channel.toNat ≤ 16

/-- The channel of a message. -/
def msgChannel : Msg → Channel
  | .noteOn ch _ _ => ch
  | .noteOff ch _ _ => ch
  | .pitchBend ch _ => ch
  | .cc ch _ _ => ch

/-- A message on a channel 1 to 16 (R180); its other values have the widths R180 asks by their types. -/
def msgLegal (m : Msg) : Bool := decide (1 ≤ (msgChannel m).toNat) && decide ((msgChannel m).toNat ≤ 16)

/-- Every Note-On of a log stands right after a pitch bend on its channel (R200). -/
abbrev bendBeforeNote (log : List Msg) : Prop :=
  ∀ (j : Nat) (ch : Channel) (note vel : Midi7), log[j]? = some (.noteOn ch note vel) →
    ∃ bend : Bend, 0 < j ∧ log[j - 1]? = some (.pitchBend ch bend)

/-- The logs: all sinks hold the same (R41), every message is legal (R180), a bend before every Note-On (R200). -/
structure LogInv (s : State) : Prop where
  same : ∀ a ∈ s.out, ∀ b ∈ s.out, a = b
  legal : ∀ log ∈ s.out, ∀ m ∈ log, msgLegal m = true
  bendFirst : ∀ log ∈ s.out, bendBeforeNote log

/-- A response whose status is not OK has a zero payload (R98). -/
abbrev respFormed (s : State) : Prop := respStatus s.resp ≠ statusCode .ok → respPayload s.resp = 0

/-! ### The status of a command -/

/-- The complete list of precondition checks (R243). -/
def preconditionBroken (i : Instr) (s : State) : Bool :=
  match i with
  | .setrange range => !rangeLegal range
  | .stage idx ch => !indexLegal s.params.n idx || !channelLegal ch
  | .fill len => s.filled || !lengthLegal s.params.n len
  | .pbrz range => !rangeLegal range
  | .pbrv _ range => !rangeLegal range
  | .initmpe range => !rangeLegal range
  | .nop | .setbase _ | .getnote _ _ | .romrd _ _ | .take _ _ | .relv _ _ | .getv _ | .press _ _ _ | .unpress _ _ | .mcm
  | .mono | .poly | .connect | .disconnect | .tick | .rdstat => false

/-- The complete list of ABSENT outcomes (R244). -/
def nothingFound (i : Instr) (s : State) : Bool :=
  match i with
  | .take _ _ => s.queue.isEmpty
  | .press _ _ _ => s.queue.isEmpty
  | .relv row col => !(voiceIndices s).any (heldAt s row col)
  | .unpress row col => !(voiceIndices s).any (heldAt s row col)
  | .getv idx => !indexLegal s.params.n idx
  | .pbrv idx _ => !indexLegal s.params.n idx || decide ((readVoice s idx).channel = 0)
  | .nop | .setbase _ | .setrange _ | .getnote _ _ | .romrd _ _ | .stage _ _ | .fill _ | .mcm | .mono | .poly | .pbrz _
  | .initmpe _ | .connect | .disconnect | .tick | .rdstat => false

/-- The status a legal command ends with: PRECOND before ABSENT (R245), OK otherwise. -/
def expectedStatus (i : Instr) (s : State) : Status :=
  if preconditionBroken i s then .precond else if nothingFound i s then .absent else .ok

/-- How many messages a command that ends OK gives each sink (R199). -/
def messageCount (i : Instr) (s : State) : Nat :=
  let pbr := match s.params.pbrForm with
    | .single => 1
    | .triplet => 3
  match i with
  | .press _ _ _ => 2
  | .unpress _ _ => 1
  | .mcm => 3
  | .mono => 1
  | .poly => 1
  | .pbrz _ => pbr
  | .pbrv _ _ => pbr
  | .initmpe _ => 4 + pbr
  | .tick => if s.settleCnt = 1 then 4 + pbr else 0
  | .nop | .setbase _ | .setrange _ | .getnote _ _ | .romrd _ _ | .stage _ _ | .fill _ | .take _ _ | .relv _ _ | .getv _
  | .connect | .disconnect | .rdstat => 0

/-! ### Values a statement compares with -/

/-- The response of a voice payload as a number, each field at its place in R99, the status OK (0) above them. -/
def voiceResponseValue (k : VoiceIdx) (v : Voice) : Nat :=
  k.toNat * 2 ^ 58 + v.channel.toNat * 2 ^ 53 + v.row.toNat * 2 ^ 50 + v.col.toNat * 2 ^ 47 +
    (if v.taken then 2 ^ 46 else 0) + v.note.toNat * 2 ^ 39 + v.bend.toNat * 2 ^ 25

/-- The operands of a command as numbers, in the assembler's order (R105). -/
def operandValues (i : Instr) : List Nat :=
  match i with
  | .setbase v | .setrange v | .pbrz v | .initmpe v => [v.toNat]
  | .getnote r c | .romrd r c | .take r c | .relv r c | .unpress r c => [r.toNat, c.toNat]
  | .press r c v => [r.toNat, c.toNat, v.toNat]
  | .stage k ch => [k.toNat, ch.toNat]
  | .fill l => [l.toNat]
  | .getv k => [k.toNat]
  | .pbrv k v => [k.toNat, v.toNat]
  | .nop | .mcm | .mono | .poly | .connect | .disconnect | .tick | .rdstat => []

/-! ### The host's duty -/

/-- At most one voice is Taken at any one pair of coordinates (R38). -/
abbrev coordinatesUnique (s : State) : Prop :=
  ∀ j k : VoiceIdx, isTaken s j → isTaken s k →
    (readVoice s j).row = (readVoice s k).row → (readVoice s j).col = (readVoice s k).col → j = k

/-- The host's discipline (R277): it allocates only at coordinates where no voice is Taken. -/
def allocatesFresh (i : Instr) (s : State) : Bool :=
  match i with
  | .take row col => !(voiceIndices s).any (heldAt s row col)
  | .press row col _ => !(voiceIndices s).any (heldAt s row col)
  | .nop | .setbase _ | .setrange _ | .getnote _ _ | .romrd _ _ | .stage _ _ | .fill _ | .relv _ _ | .getv _ | .unpress _ _
  | .mcm | .mono | .poly | .pbrz _ | .pbrv _ _ | .initmpe _ | .connect | .disconnect | .tick | .rdstat => true

end Sys2Proof.Machine
end

