-- ==== Sys2Proof/Certificates/Slice0/Obligations.lean ====
section
/-! DEFINITION. The statements for the provers. A frame is said by one equation: the state after, with every field the command
may write put back to its value before, is the state before. -/

open Sys2Proof Sys2Proof.Machine

/-! ### Encoding -/

/-- Decoding the word of any command gives it back, with every operand at every value of its field (R91 to R94, R97). -/
def Obligations.DecodeGivesBackEncoded : Prop :=
  ∀ i : Instr, decode (encode i) = .ok i

/-- A word that decodes is the word of the command it decodes to: no bit of it is ignored (R94, R97). -/
def Obligations.DecodedWordIsItsEncoding : Prop :=
  ∀ (w : CmdWord) (i : Instr), decode w = .ok i → encode i = w

/-- R97: a word decodes to a command exactly when it matches a row of the opcode map, and then to that row's command; it
matches at most one row; every other word is illegal. -/
def Obligations.EveryWordMatchesAtMostOneRow : Prop :=
  (∀ (w : CmdWord) (i : Instr), decode w = .ok i ↔ ∃ r ∈ opcodeTable, w &&& r.mask = r.pattern ∧ r.build w = i) ∧
  (∀ w : CmdWord, (∃ e, decode w = .error e) ↔ ∀ r ∈ opcodeTable, w &&& r.mask ≠ r.pattern) ∧
  ∀ (w : CmdWord) (j k : Nat) (a b : OpRow), opcodeTable[j]? = some a → opcodeTable[k]? = some b →
    w &&& a.mask = a.pattern → w &&& b.mask = b.pattern → j = k

/-- The ten encoding examples of R108. -/
def Obligations.ExampleWordsDecode : Prop :=
  decode 0x00000000 = .ok .nop ∧ decode 0x04048000 = .ok (.setbase 36) ∧ decode 0x08060000 = .ok (.setrange 48) ∧
  decode 0x0C200000 = .ok (.getnote 0 2) ∧ decode 0x14000220 = .ok (.stage 1 2) ∧ decode 0x18000002 = .ok (.fill 2) ∧
  decode 0x1CA00000 = .ok (.take 1 2) ∧ decode 0x28AC8000 = .ok (.press 1 2 100) ∧
  decode 0x40060600 = .ok (.pbrv 3 48) ∧ decode 0x50000000 = .ok .tick

/-! ### The step -/

/-- A step performs the next word, legal or not; of a legal word it is exec of the command it decodes to. (Where the next word
stands is the model's choice, assumption 3.) -/
def Obligations.StepRunsDecodedCommand : Prop :=
  (∀ (s : State) (w : CmdWord) (i : Instr), s.resetReq = false → nextWord s = some w → decode w = .ok i →
    step s = exec i s) ∧
  ∀ (s : State) (w : CmdWord), s.resetReq = false → nextWord s = some w → step s = .next (perform w s)

/-- R241: a word that is no command ends ILLEGAL; RESP, STICKY_ERR and cmdidx change and nothing else. -/
def Obligations.IllegalWordOnlyReports : Prop :=
  ∀ (s : State) (w : CmdWord) (e : Reject), decode w = .error e →
    perform w s = { s with resp := 0xC000000000000000, stickyErr := true, cmdidx := s.cmdidx + 1 }

/-- With no reset asserted and no command issued the state holds (R255, R273; that such a step is taken at all is the model's
choice, assumption 5). -/
def Obligations.IdleStateHolds : Prop :=
  ∀ s : State, s.resetReq = false → nextWord s = none → step s = .next s

/-- The reset event gives every state element its reset value, whatever the state was (R270 to R272), and leaves what belongs
to the host; that the host asserts it through a field of the state is the model's choice (assumption 4). -/
def Obligations.ResetEventLoadsResetValues : Prop :=
  ∀ s : State, s.resetReq = true → ∃ t, step s = .next t ∧
    t.baseNote = s.params.cfgBaseNote ∧ t.pbRange = s.params.cfgPbRange ∧ t.zone = s.params.cfgZone ∧
    t.numChannels = s.params.cfgNumCh ∧ t.filled = false ∧ t.numTaken = 0 ∧ t.settleCnt = 0 ∧ t.stickyErr = false ∧
    t.stage = List.replicate s.params.n 0 ∧
    t.voices = List.replicate s.params.n
      { note := 0, bend := 8192, row := 0, col := 0, channel := 0, taken := false } ∧
    t.queue = [] ∧
    (∀ a : Fin 64, (t.notes[a]).note.toNat = min 127 (s.params.cfgBaseNote.toNat + (s.params.toneRom[a]).offset.toNat) ∧
      (t.notes[a]).bend.toNat = (s.params.toneRom[a]).dev.toNat / (s.params.cfgPbRange.toNat * 2 ^ 19) + 8192) ∧
    t.resp = 0 ∧ t.out = List.replicate s.params.numSinks [] ∧ t.cmdidx = s.cmdidx ∧ t.params = s.params ∧
    t.program = s.program ∧ t.resetReq = false

/-- Every step answers a next state (R256). -/
def Obligations.EveryStepCompletes : Prop :=
  ∀ s : State, ∃ t, step s = .next t

/-! ### The tuning family -/

/-- R121: the note number of a cell, saturated at 127; a saturated cell keeps its bend. -/
def Obligations.CellNoteSaturates : Prop :=
  ∀ (base range : Midi7) (t : Tone),
    (cellOf base range t).note.toNat = min 127 (base.toNat + t.offset.toNat) ∧
    (cellOf base range t).bend = cellBend t.dev range ∧
    (t.wf = true → base.toNat + t.offset.toNat ≤ 138)

/-- R122: the bend of a cell, its divisor and its range. -/
def Obligations.CellBendIsExactAndInRange : Prop :=
  ∀ (dev : BitVec 32) (range : Midi7), range ≠ 0 →
    (cellBend dev range).toNat = dev.toNat / (range.toNat * 2 ^ 19) + 8192 ∧
    8192 ≤ (cellBend dev range).toNat ∧ (cellBend dev range).toNat ≤ 16383 ∧
    2 ^ 19 ≤ range.toNat * 2 ^ 19 ∧ range.toNat * 2 ^ 19 ≤ 66584576

/-- SETBASE completes: the register and all 64 cells (R126, R120). -/
def Obligations.SetbaseRecomputesEveryCell : Prop :=
  ∀ (note : Midi7) (s : State), ∃ t, exec (.setbase note) s = .next t ∧
    t.baseNote = note ∧
    (∀ row col : Coord,
      (readNote t row col).note.toNat = min 127 (note.toNat + (readTone s row col).offset.toNat) ∧
      (readNote t row col).bend.toNat = (readTone s row col).dev.toNat / (s.pbRange.toNat * 2 ^ 19) + 8192) ∧
    t.resp = 0 ∧ t.cmdidx = s.cmdidx + 1 ∧
    { t with baseNote := s.baseNote, notes := s.notes, resp := s.resp, cmdidx := s.cmdidx } = s

/-- SETRANGE with a range of 1 to 127 completes: the register and all 64 cells (R127, R120). -/
def Obligations.SetrangeRecomputesEveryCell : Prop :=
  ∀ (range : Midi7) (s : State), range ≠ 0 → ∃ t, exec (.setrange range) s = .next t ∧
    t.pbRange = range ∧
    (∀ row col : Coord,
      (readNote t row col).note.toNat = min 127 (s.baseNote.toNat + (readTone s row col).offset.toNat) ∧
      (readNote t row col).bend.toNat = (readTone s row col).dev.toNat / (range.toNat * 2 ^ 19) + 8192) ∧
    t.resp = 0 ∧ t.cmdidx = s.cmdidx + 1 ∧
    { t with pbRange := s.pbRange, notes := s.notes, resp := s.resp, cmdidx := s.cmdidx } = s

/-- GETNOTE completes: NOTE at bit 39 and BEND at bit 25 of the response, everything else kept (R128, R100). -/
def Obligations.GetnoteAnswersTheCell : Prop :=
  ∀ (row col : Coord) (s : State), ∃ t, exec (.getnote row col) s = .next t ∧
    t.resp.toNat = (readNote s row col).note.toNat * 2 ^ 39 + (readNote s row col).bend.toNat * 2 ^ 25 ∧
    t.cmdidx = s.cmdidx + 1 ∧ { t with resp := s.resp, cmdidx := s.cmdidx } = s

/-- ROMRD completes: LIMIT at bit 58, OFFSET at bit 54, DEV at bit 0 of the response, everything else kept (R129, R101). -/
def Obligations.RomrdAnswersTheEntry : Prop :=
  ∀ (row col : Coord) (s : State), ∃ t, exec (.romrd row col) s = .next t ∧
    t.resp.toNat = (readTone s row col).limit.toNat * 2 ^ 58 + (readTone s row col).offset.toNat * 2 ^ 54 +
      (readTone s row col).dev.toNat ∧
    t.cmdidx = s.cmdidx + 1 ∧ { t with resp := s.resp, cmdidx := s.cmdidx } = s

/-! ### The voice pool -/

/-- STAGE with an index of the pool and a channel of 0 to 16 completes: one staging entry (R152). -/
def Obligations.StageWritesOneEntry : Prop :=
  ∀ (idx : VoiceIdx) (ch : Channel) (s : State), Memory.wf s → idx.toNat < s.params.n → ch.toNat ≤ 16 →
    ∃ t, exec (.stage idx ch) s = .next t ∧
      readStage t idx = ch ∧ (∀ j : VoiceIdx, j ≠ idx → readStage t j = readStage s j) ∧
      t.stage.length = s.stage.length ∧ t.resp = 0 ∧ t.cmdidx = s.cmdidx + 1 ∧
      { t with stage := s.stage, resp := s.resp, cmdidx := s.cmdidx } = s

/-- The first FILL, of at most N channels, completes: channels in ascending order, the nonzero ones queued (R153). -/
def Obligations.FillAssignsTheStagedChannels : Prop :=
  ∀ (len : BitVec 4) (s : State), Memory.wf s → s.filled = false → len.toNat ≤ s.params.n →
    ∃ t, exec (.fill len) s = .next t ∧
      (∀ k : VoiceIdx, k.toNat < len.toNat → readVoice t k = { readVoice s k with channel := readStage s k }) ∧
      (∀ k : VoiceIdx, len.toNat ≤ k.toNat → readVoice t k = readVoice s k) ∧
      t.voices.length = s.voices.length ∧
      t.queue = s.queue ++ ((List.range len.toNat).map (BitVec.ofNat 4)).filter (fun k => readStage s k != 0) ∧
      t.filled = true ∧ t.resp = 0 ∧ t.cmdidx = s.cmdidx + 1 ∧
      { t with voices := s.voices, queue := s.queue, filled := s.filled, resp := s.resp, cmdidx := s.cmdidx } = s

/-- TAKE with a Free voice completes: the head of the queue is Taken and stamped (R154, R156). -/
def Obligations.TakeAllocatesTheHead : Prop :=
  ∀ (row col : Coord) (s : State) (k : VoiceIdx) (rest : List VoiceIdx), s.queue = k :: rest → k.toNat < s.voices.length →
    ∃ t, exec (.take row col) s = .next t ∧
      readVoice t k = { readVoice s k with taken := true, row := row, col := col } ∧
      (∀ j : VoiceIdx, j ≠ k → readVoice t j = readVoice s j) ∧ t.voices.length = s.voices.length ∧
      t.queue = rest ∧ t.numTaken = s.numTaken + 1 ∧ t.resp.toNat = voiceResponseValue k (readVoice t k) ∧
      t.cmdidx = s.cmdidx + 1 ∧
      { t with voices := s.voices, queue := s.queue, numTaken := s.numTaken, resp := s.resp, cmdidx := s.cmdidx } = s

/-- RELV where a Taken voice has the coordinates completes: the lowest such index is released to the tail (R155, R157). -/
def Obligations.RelvReleasesTheLowestMatch : Prop :=
  ∀ (row col : Coord) (s : State) (k : VoiceIdx), s.params.n ≤ 14 → Memory.wf s → k.toNat < s.params.n →
    heldAt s row col k = true → (∀ j : VoiceIdx, j.toNat < k.toNat → heldAt s row col j = false) →
    ∃ t, exec (.relv row col) s = .next t ∧
      readVoice t k = { readVoice s k with taken := false } ∧
      (∀ j : VoiceIdx, j ≠ k → readVoice t j = readVoice s j) ∧ t.voices.length = s.voices.length ∧
      t.queue = s.queue ++ [k] ∧ t.numTaken = s.numTaken - 1 ∧ t.resp.toNat = voiceResponseValue k (readVoice t k) ∧
      t.cmdidx = s.cmdidx + 1 ∧
      { t with voices := s.voices, queue := s.queue, numTaken := s.numTaken, resp := s.resp, cmdidx := s.cmdidx } = s

/-- GETV with an index of the pool completes: the voice as it is, whatever its state (R158). -/
def Obligations.GetvAnswersTheVoice : Prop :=
  ∀ (idx : VoiceIdx) (s : State), idx.toNat < s.params.n → ∃ t, exec (.getv idx) s = .next t ∧
    t.resp.toNat = voiceResponseValue idx (readVoice s idx) ∧
    t.cmdidx = s.cmdidx + 1 ∧ { t with resp := s.resp, cmdidx := s.cmdidx } = s

/-! ### The MIDI output -/

/-- PRESS with a Free voice completes: the head of the queue is Taken, gets the cell's Note and sounds it, the bend before the
note, on every sink (R189, R187). -/
def Obligations.PressSoundsTheCell : Prop :=
  ∀ (row col : Coord) (vel : Midi7) (s : State) (k : VoiceIdx) (rest : List VoiceIdx), s.queue = k :: rest →
    k.toNat < s.voices.length →
    ∃ t, exec (.press row col vel) s = .next t ∧
      readVoice t k = { readVoice s k with
        taken := true, row := row, col := col, note := (readNote s row col).note, bend := (readNote s row col).bend } ∧
      (∀ j : VoiceIdx, j ≠ k → readVoice t j = readVoice s j) ∧ t.voices.length = s.voices.length ∧
      t.queue = rest ∧ t.numTaken = s.numTaken + 1 ∧
      t.out = s.out.map (fun log => log ++
        [.pitchBend (readVoice s k).channel (readNote s row col).bend,
         .noteOn (readVoice s k).channel (readNote s row col).note vel]) ∧
      t.resp.toNat = voiceResponseValue k (readVoice t k) ∧ t.cmdidx = s.cmdidx + 1 ∧
      { t with
        voices := s.voices, queue := s.queue, numTaken := s.numTaken, out := s.out, resp := s.resp, cmdidx := s.cmdidx } = s

/-- UNPRESS where a Taken voice has the coordinates completes: the lowest such index is released, and a Note-Off of velocity
0 goes out for the Note it holds (R190, R188). -/
def Obligations.UnpressSilencesTheVoice : Prop :=
  ∀ (row col : Coord) (s : State) (k : VoiceIdx), s.params.n ≤ 14 → Memory.wf s → k.toNat < s.params.n →
    heldAt s row col k = true → (∀ j : VoiceIdx, j.toNat < k.toNat → heldAt s row col j = false) →
    ∃ t, exec (.unpress row col) s = .next t ∧
      readVoice t k = { readVoice s k with taken := false } ∧
      (∀ j : VoiceIdx, j ≠ k → readVoice t j = readVoice s j) ∧ t.voices.length = s.voices.length ∧
      t.queue = s.queue ++ [k] ∧ t.numTaken = s.numTaken - 1 ∧
      t.out = s.out.map (fun log => log ++ [.noteOff (readVoice s k).channel (readVoice s k).note 0]) ∧
      t.resp.toNat = voiceResponseValue k (readVoice t k) ∧ t.cmdidx = s.cmdidx + 1 ∧
      { t with
        voices := s.voices, queue := s.queue, numTaken := s.numTaken, out := s.out, resp := s.resp, cmdidx := s.cmdidx } = s

/-- MCM, MONO and POLY complete: their messages on the zone's master channel, 1 for Lower and 16 for Upper (R191 to R193,
R26). -/
def Obligations.ZoneCommandsSendTheirMessages : Prop :=
  ∀ (s : State) (m : Channel), m = (if s.zone = .lower then 1 else 16) →
    exec .mcm s = .next { s with
      out := s.out.map (fun log => log ++ [.cc m 100 6, .cc m 101 0, .cc m 6 s.numChannels]),
      resp := 0, cmdidx := s.cmdidx + 1 } ∧
    exec .mono s = .next { s with out := s.out.map (fun log => log ++ [.cc m 126 0]), resp := 0, cmdidx := s.cmdidx + 1 } ∧
    exec .poly s = .next { s with out := s.out.map (fun log => log ++ [.cc m 127 0]), resp := 0, cmdidx := s.cmdidx + 1 }

/-- PBRZ with a range of 1 to 127 completes: one message under SINGLE, three under TRIPLET, on the master channel (R194,
R195). -/
def Obligations.PbrzSendsTheRange : Prop :=
  ∀ (range : Midi7) (s : State) (m : Channel), range ≠ 0 → m = (if s.zone = .lower then 1 else 16) →
    (s.params.pbrForm = .single → exec (.pbrz range) s = .next { s with
      out := s.out.map (fun log => log ++ [.cc m 6 range]), resp := 0, cmdidx := s.cmdidx + 1 }) ∧
    (s.params.pbrForm = .triplet → exec (.pbrz range) s = .next { s with
      out := s.out.map (fun log => log ++ [.cc m 100 0, .cc m 101 0, .cc m 6 range]), resp := 0, cmdidx := s.cmdidx + 1 })

/-- PBRV with a range of 1 to 127 and a voice that has a channel completes, on that voice's channel (R194, R196). -/
def Obligations.PbrvSendsTheRangeOnTheVoice : Prop :=
  ∀ (idx : VoiceIdx) (range : Midi7) (s : State) (c : Channel), range ≠ 0 → idx.toNat < s.params.n →
    c = (readVoice s idx).channel → c ≠ 0 →
    (s.params.pbrForm = .single → exec (.pbrv idx range) s = .next { s with
      out := s.out.map (fun log => log ++ [.cc c 6 range]), resp := 0, cmdidx := s.cmdidx + 1 }) ∧
    (s.params.pbrForm = .triplet → exec (.pbrv idx range) s = .next { s with
      out := s.out.map (fun log => log ++ [.cc c 100 0, .cc c 101 0, .cc c 6 range]), resp := 0, cmdidx := s.cmdidx + 1 })

/-- INITMPE with a range of 1 to 127 completes, and sends what MCM, then POLY, then PBRZ send (R197, R198). -/
def Obligations.InitmpeSendsMcmPolyPbrz : Prop :=
  ∀ (range : Midi7) (s : State), range ≠ 0 → ∃ t, exec (.initmpe range) s = .next t ∧
    t.out = (runInstrs [.mcm, .poly, .pbrz range] s).out ∧ t.resp = 0 ∧ t.cmdidx = s.cmdidx + 1 ∧
    { t with out := s.out, resp := s.resp, cmdidx := s.cmdidx } = s

/-! ### Control -/

/-- NOP, CONNECT and DISCONNECT complete: nothing, the countdown loaded, the countdown cleared (R220 to R222). -/
def Obligations.ConnectAndDisconnectSetTheCountdown : Prop :=
  ∀ s : State,
    exec .nop s = .next { s with resp := 0, cmdidx := s.cmdidx + 1 } ∧
    exec .connect s = .next { s with settleCnt := s.params.settleTicks, resp := 0, cmdidx := s.cmdidx + 1 } ∧
    exec .disconnect s = .next { s with settleCnt := 0, resp := 0, cmdidx := s.cmdidx + 1 }

/-- TICK completes: nothing at 0, one less above 1, and at 1 the countdown ends and what INITMPE sends with PB_RANGE goes out
(R223). -/
def Obligations.TickCountsDownAndFires : Prop :=
  ∀ s : State,
    (s.settleCnt = 0 → exec .tick s = .next { s with resp := 0, cmdidx := s.cmdidx + 1 }) ∧
    (1 < s.settleCnt.toNat → ∃ t, exec .tick s = .next t ∧ t.settleCnt.toNat + 1 = s.settleCnt.toNat ∧ t.resp = 0 ∧
      t.cmdidx = s.cmdidx + 1 ∧ { t with settleCnt := s.settleCnt, resp := s.resp, cmdidx := s.cmdidx } = s) ∧
    (s.settleCnt = 1 → s.pbRange ≠ 0 → ∃ t, exec .tick s = .next t ∧ t.settleCnt = 0 ∧
      t.out = (after (.initmpe s.pbRange) s).out ∧ t.resp = 0 ∧ t.cmdidx = s.cmdidx + 1 ∧
      { t with settleCnt := s.settleCnt, out := s.out, resp := s.resp, cmdidx := s.cmdidx } = s)

/-- RDSTAT completes: every counter and register at its place in R102, everything else kept (R224). -/
def Obligations.RdstatAnswersTheCounters : Prop :=
  ∀ s : State, s.queue.length ≤ 14 → ∃ t, exec .rdstat s = .next t ∧
    t.resp.toNat = s.numTaken.toNat * 2 ^ 58 + s.queue.length * 2 ^ 54 + (if s.filled then 2 ^ 53 else 0) +
      (if s.stickyErr then 2 ^ 52 else 0) + (if s.zone = .upper then 2 ^ 51 else 0) + s.baseNote.toNat * 2 ^ 44 +
      s.pbRange.toNat * 2 ^ 37 + s.numChannels.toNat * 2 ^ 30 + s.settleCnt.toNat * 2 ^ 14 ∧
    t.cmdidx = s.cmdidx + 1 ∧ { t with resp := s.resp, cmdidx := s.cmdidx } = s

/-- R226: after a CONNECT, and with no other CONNECT or DISCONNECT, the countdown is SETTLE_TICKS less the TICKs so far, the
initialisation fires at the SETTLE_TICKS-th TICK and at no other, once, whatever commands stand between; after a DISCONNECT,
and where no countdown runs, it never fires. (One table of 95_test_vectors.md shows the firing one TICK earlier than R223 and
R226 say; the model follows the rules: assumption 14, DEDUCED.) -/
def Obligations.InitFiresOnceAfterLastConnect : Prop :=
  ∀ (s : State) (is : List Instr), (∀ i ∈ is, i ≠ .connect ∧ i ≠ .disconnect) → s.params.settleTicks ≠ 0 →
    (runInstrs is (after .connect s)).settleCnt.toNat = s.params.settleTicks.toNat - is.count .tick ∧
    (initFires .tick (runInstrs is (after .connect s)) = true ↔ is.count .tick + 1 = s.params.settleTicks.toNat) ∧
    firings is (after .connect s) = (if s.params.settleTicks.toNat ≤ is.count .tick then 1 else 0) ∧
    firings is (after .disconnect s) = 0 ∧ (s.settleCnt = 0 → firings is s = 0)

/-! ### Statuses -/

/-- R243, R245: the status of every word is ILLEGAL where it is no command, else PRECOND where the list of precondition
checks says so, else ABSENT where nothing is found, else OK. -/
def Obligations.StatusFollowsTheLists : Prop :=
  ∀ (w : CmdWord) (s : State), respStatus (perform w s).resp =
    (match decode w with
     | .error _ => 3
     | .ok i => if preconditionBroken i s then 2 else if nothingFound i s then 1 else 0)

/-- R246: a word that does not end OK leaves everything but RESP, cmdidx and, for PRECOND and ILLEGAL, STICKY_ERR. -/
def Obligations.RefusedWordsChangeNothingElse : Prop :=
  ∀ (w : CmdWord) (s : State), respStatus (perform w s).resp ≠ 0 →
    { perform w s with resp := s.resp, cmdidx := s.cmdidx, stickyErr := s.stickyErr } = s ∧
    (respStatus (perform w s).resp = 1 → (perform w s).stickyErr = s.stickyErr)

/-- R247: STICKY_ERR is set by PRECOND and ILLEGAL, kept by OK and ABSENT, reported at bit 52 by RDSTAT, which does not clear
it, and cleared by reset. -/
def Obligations.StickyErrorIsSetByErrorsOnly : Prop :=
  (∀ (w : CmdWord) (s : State),
    (perform w s).stickyErr = (s.stickyErr || decide (2 ≤ (respStatus (perform w s).resp).toNat))) ∧
  (∀ s : State, (after .rdstat s).resp.getLsbD 52 = s.stickyErr ∧ (after .rdstat s).stickyErr = s.stickyErr) ∧
  ∀ s : State, (resetEvent s).stickyErr = false

/-- Every word advances cmdidx by exactly 1, whatever its status, and writes a response whose payload is zero unless the
status is OK (R21, R98, R104). -/
def Obligations.EveryWordAdvancesAndResponds : Prop :=
  ∀ (w : CmdWord) (s : State), (perform w s).cmdidx = s.cmdidx + 1 ∧ respFormed (perform w s)

/-! ### What each command may write -/

/-- Each register is written only by the commands the spec names for it (R22 to R25, R27 to R29, R31, R39, R44). -/
def Obligations.OnlyNamedCommandsWriteRegisters : Prop :=
  ∀ (i : Instr) (s t : State), exec i s = .next t →
    (t.baseNote ≠ s.baseNote → ∃ v, i = .setbase v) ∧
    (t.pbRange ≠ s.pbRange → ∃ v, i = .setrange v) ∧
    (t.notes ≠ s.notes → (∃ v, i = .setbase v) ∨ ∃ v, i = .setrange v) ∧
    t.zone = s.zone ∧ t.numChannels = s.numChannels ∧
    (s.filled = true → t.filled = true) ∧ (t.filled ≠ s.filled → ∃ l, i = .fill l) ∧
    (t.numTaken ≠ s.numTaken → (∃ r c, i = .take r c) ∨ (∃ r c, i = .relv r c) ∨ (∃ r c v, i = .press r c v) ∨
      ∃ r c, i = .unpress r c) ∧
    (t.queue ≠ s.queue → (∃ l, i = .fill l) ∨ (∃ r c, i = .take r c) ∨ (∃ r c, i = .relv r c) ∨
      (∃ r c v, i = .press r c v) ∨ ∃ r c, i = .unpress r c) ∧
    (t.settleCnt ≠ s.settleCnt → i = .connect ∨ i = .disconnect ∨ i = .tick) ∧
    (t.stage ≠ s.stage → ∃ k c, i = .stage k c) ∧
    t.params = s.params ∧ t.program = s.program ∧ t.resetReq = s.resetReq

/-- Each field of a voice is written only by the commands R32 names for it. -/
def Obligations.OnlyNamedCommandsWriteVoices : Prop :=
  ∀ (i : Instr) (s t : State) (k : VoiceIdx), exec i s = .next t →
    ((readVoice t k).channel ≠ (readVoice s k).channel → ∃ l, i = .fill l) ∧
    ((readVoice t k).note ≠ (readVoice s k).note ∨ (readVoice t k).bend ≠ (readVoice s k).bend → ∃ r c v, i = .press r c v) ∧
    ((readVoice t k).row ≠ (readVoice s k).row ∨ (readVoice t k).col ≠ (readVoice s k).col →
      (∃ r c, i = .take r c) ∨ ∃ r c v, i = .press r c v) ∧
    ((readVoice t k).taken ≠ (readVoice s k).taken → (∃ r c, i = .take r c) ∨ (∃ r c, i = .relv r c) ∨
      (∃ r c v, i = .press r c v) ∨ ∃ r c, i = .unpress r c)

/-- R199: the number of messages each word gives every sink, none where it does not end OK; the logs only grow, all by the
same messages, so that the total is that number times the number of sinks. -/
def Obligations.MessageCountsPerCommand : Prop :=
  ∀ (w : CmdWord) (s : State), Memory.wf s → ∃ ms : List Msg,
    (perform w s).out = s.out.map (fun log => log ++ ms) ∧
    ((perform w s).out.map List.length).sum = (s.out.map List.length).sum + s.params.numSinks * ms.length ∧
    ms.length = (match decode w with
      | .error _ => 0
      | .ok i => if respStatus (perform w s).resp = 0 then messageCount i s else 0)

/-- R76: GETNOTE, ROMRD, GETV and RDSTAT change nothing but RESP and cmdidx, so repeating one gives the same response. -/
def Obligations.ReadsHaveNoSideEffects : Prop :=
  ∀ (i : Instr) (s : State), ((∃ r c, i = .getnote r c) ∨ (∃ r c, i = .romrd r c) ∨ (∃ k, i = .getv k) ∨ i = .rdstat) →
    { after i s with resp := s.resp, cmdidx := s.cmdidx } = s ∧ (after i (after i s)).resp = (after i s).resp

/-- No command's effect, and nothing a host observes, depends on the response of an earlier command; and of the sticky bit
only RDSTAT's response does (R43). -/
def Obligations.EarlierStatusSteersNothing : Prop :=
  (∀ (i : Instr) (s : State) (r : RespWord), exec i (s.setResp r) = exec i s) ∧
  (∀ (ws : List CmdWord) (s : State) (r : RespWord), observe ws (s.setResp r) = observe ws s) ∧
  ∀ (i : Instr) (s : State) (b : Bool), i ≠ .rdstat →
    (after i (s.setStickyErr b)).setStickyErr false = (after i s).setStickyErr false

/-! ### Invariants -/

/-- Every step keeps the pool invariants. -/
def Obligations.StepKeepsPoolInvariant : Prop :=
  ∀ s t : State, PoolInv s → step s = .next t → PoolInv t ∧ t.params = s.params

/-- The state after reset meets the pool invariants, for every well-formed choice of the parameters. -/
def Obligations.ResetMeetsPoolInvariant : Prop :=
  ∀ p : Params, p.wf = true → PoolInv (State.resetWith p)

/-- Every step keeps the tuning invariants, for well-formed parameters (a reset loads the range from them). -/
def Obligations.StepKeepsTuningInvariant : Prop :=
  ∀ s t : State, s.params.wf = true → TuningInv s → step s = .next t → TuningInv t

/-- Every step keeps the read-only registers and the bound of the countdown. -/
def Obligations.StepKeepsControlInvariant : Prop :=
  ∀ s t : State, ControlInv s → step s = .next t → ControlInv t

/-- Every step keeps the channels of the staging file and of the voices within 0 to 16. -/
def Obligations.StepKeepsChannelInvariant : Prop :=
  ∀ s t : State, ChannelInv s → step s = .next t → ChannelInv t

/-- Every step keeps the logs equal, their messages legal, and a bend right before every Note-On, where the pool and channel
invariants hold. -/
def Obligations.StepKeepsLogInvariant : Prop :=
  ∀ s t : State, PoolInv s → ChannelInv s → LogInv s → step s = .next t → LogInv t

/-- The state after reset meets the tuning, control, channel and log invariants, for well-formed parameters. -/
def Obligations.ResetMeetsOtherInvariants : Prop :=
  ∀ p : Params, p.wf = true →
    TuningInv (State.resetWith p) ∧ ControlInv (State.resetWith p) ∧ ChannelInv (State.resetWith p) ∧
      LogInv (State.resetWith p)

/-- R35 to R37 in every reachable state: the queue holds exactly the Free voices, each once; NUM_TAKEN counts the Taken ones;
together they are the assigned ones. -/
def Obligations.ReachablePoolIsConserved : Prop :=
  ∀ (p : Params) (s : State), p.wf = true → Reachable p s →
    ((∀ k : VoiceIdx, k ∈ s.queue ↔
        k.toNat < p.n ∧ (readVoice s k).channel ≠ 0 ∧ (readVoice s k).taken = false) ∧ s.queue.Nodup) ∧
    s.numTaken.toNat = takenCount s ∧ s.numTaken.toNat + s.queue.length = assignedCount s

/-- R67 and R130 in every reachable state: the cache is the function of the registers and the ROM, and the unison cells hold
the base note with no bend. -/
def Obligations.ReachableCacheIsCurrent : Prop :=
  ∀ (p : Params) (s : State), p.wf = true → Reachable p s →
    (∀ a : Fin 64, s.notes[a] = cellOf s.baseNote s.pbRange p.toneRom[a]) ∧
    ∀ d : Coord, readNote s d d = { note := s.baseNote, bend := 8192 }

/-- In every reachable state all sinks hold the same log, every message is on a channel 1 to 16, and every Note-On stands
right after a pitch bend on its channel (R41, R180, R200). -/
def Obligations.ReachableLogsAreLegal : Prop :=
  ∀ (p : Params) (s : State), p.wf = true → Reachable p s →
    (∀ a ∈ s.out, ∀ b ∈ s.out, a = b) ∧
    ∀ log ∈ s.out, (∀ m ∈ log, 1 ≤ (msgChannel m).toNat ∧ (msgChannel m).toNat ≤ 16) ∧ bendBeforeNote log

/-! ### Laws of the pool -/

/-- R159: of two voices released in turn, the first comes back before the second; TAKE gives the Free voices in the order they
became Free. -/
def Obligations.ReleasedVoicesComeBackInOrder : Prop :=
  ∀ (s : State) (ra ca rb cb : Coord) (coords : List (Coord × Coord)),
    respStatus (after (.relv ra ca) s).resp = 0 →
    respStatus (after (.relv rb cb) (after (.relv ra ca) s)).resp = 0 →
    coords.length = s.queue.length + 2 →
    takenIndices coords (after (.relv rb cb) (after (.relv ra ca) s)) =
      s.queue ++ [reportedVoice (after (.relv ra ca) s).resp,
        reportedVoice (after (.relv rb cb) (after (.relv ra ca) s)).resp]

/-- R161: an allocation does not look at the coordinates it is given; where exactly two voices are Taken at the same
coordinates, a first release there, by RELV or UNPRESS, frees the lower index, a second the other, and a third finds none. -/
def Obligations.DuplicateCoordinatesLowestFirst : Prop :=
  (∀ (s : State) (row col row' col' : Coord) (vel : Midi7), s.queue ≠ [] →
    respStatus (after (.take row col) s).resp = 0 ∧ respStatus (after (.press row col vel) s).resp = 0 ∧
    reportedVoice (after (.take row col) s).resp = reportedVoice (after (.take row' col') s).resp) ∧
  ∀ (s : State) (row col : Coord) (j k : VoiceIdx) (a b c : Instr), Memory.wf s → s.params.n ≤ 14 →
    j.toNat < k.toNat → k.toNat < s.params.n → (∀ l : VoiceIdx, heldAt s row col l = true ↔ l = j ∨ l = k) →
    (∀ i ∈ [a, b, c], i = .relv row col ∨ i = .unpress row col) →
    respStatus (after a s).resp = 0 ∧ reportedVoice (after a s).resp = j ∧
    respStatus (after b (after a s)).resp = 0 ∧ reportedVoice (after b (after a s)).resp = k ∧
    respStatus (after c (after b (after a s))).resp = 1

/-- TAKE answers ABSENT exactly when every voice with a channel is Taken, and the queue never holds more than N indices, so
that its ring of N+1 slots never overflows (R162, R70). -/
def Obligations.PoolIsExhaustedWhenAllAreTaken : Prop :=
  ∀ (s : State) (row col : Coord), PoolInv s →
    (respStatus (after (.take row col) s).resp = 1 ↔
      ∀ k : VoiceIdx, k.toNat < s.params.n → (readVoice s k).channel ≠ 0 → (readVoice s k).taken = true) ∧
    s.queue.length ≤ s.params.n

/-- A host that allocates only at coordinates no Taken voice has keeps the coordinates of the Taken voices unique (R38,
R277). -/
def Obligations.DisciplineKeepsCoordinatesUnique : Prop :=
  ∀ (i : Instr) (s t : State), PoolInv s → coordinatesUnique s → allocatesFresh i s = true → exec i s = .next t →
    coordinatesUnique t

/-- R34: used so that it never holds more than N indices, the ring of N+1 slots answers as the sequence does. -/
def Obligations.RingAnswersAsSequence : Prop :=
  ∀ (n : Nat) (ops : List QueueOp), staysWithin n [] ops = true →
    ringAnswers (ringReset n) ops = seqAnswers [] ops

/-! ### The assembler -/

/-- An accepted command line assembles to one word, that of the command with its mnemonic and its operands; a refused line to
nothing (R105). -/
def Obligations.AcceptedLinesAssemble : Prop :=
  ∀ (n : Nat) (m : String) (vs : List Nat),
    (AsmLine.wf n (.cmd m vs) = true → ∃ (i : Instr) (r : OpRow), assembleLine n (.cmd m vs) = some [encode i] ∧
      opcodeTable[(opcodeOf i).toNat]? = some r ∧ r.mnemonic = m ∧ operandValues i = vs) ∧
    (AsmLine.wf n (.cmd m vs) = false → assembleLine n (.cmd m vs) = none)

/-- FILLV from reset establishes the pool of its list: each listed voice has its channel, the others none, and the queue holds
the voices with a channel in ascending order (R106, R153, R274). -/
def Obligations.FillvEstablishesThePool : Prop :=
  ∀ (p : Params) (cs : List Nat), p.wf = true → cs.length ≤ p.n → (∀ c ∈ cs, c ≤ 16) →
    let t := runInstrs (fillvInstrs cs) (State.resetWith p)
    respStatus t.resp = 0 ∧ t.filled = true ∧ t.stickyErr = false ∧ t.out = List.replicate p.numSinks [] ∧
    (∀ k : VoiceIdx, (readVoice t k).channel.toNat = cs.getD k.toNat 0 ∧ (readVoice t k).taken = false) ∧
    t.queue = ((List.range cs.length).map (BitVec.ofNat 4)).filter (fun k => cs.getD k.toNat 0 != 0)
end

