-- ==== Sys2Proof/Laws/Encoding.lean ====
section
/-! SUPPORT. The fields of a packed word, and the mask of a packed word: what the encoding claims rest on. -/

namespace Sys2Proof

section Fields
variable (op : BitVec 6) (row col : Coord) (imm : Midi7) (idx : VoiceIdx) (ch : Channel) (len : BitVec 4)

@[simp] theorem fieldOp_packWord : fieldOp (packWord op row col imm idx ch len) = op := by
  apply BitVec.eq_of_getElem_eq
  intro i hi
  simp only [fieldOp, packWord, BitVec.getElem_extractLsb', BitVec.getLsbD_append]
  interval_cases i <;> simp

@[simp] theorem fieldRow_packWord : fieldRow (packWord op row col imm idx ch len) = row := by
  apply BitVec.eq_of_getElem_eq
  intro i hi
  simp only [fieldRow, packWord, BitVec.getElem_extractLsb', BitVec.getLsbD_append]
  interval_cases i <;> simp

@[simp] theorem fieldCol_packWord : fieldCol (packWord op row col imm idx ch len) = col := by
  apply BitVec.eq_of_getElem_eq
  intro i hi
  simp only [fieldCol, packWord, BitVec.getElem_extractLsb', BitVec.getLsbD_append]
  interval_cases i <;> simp

@[simp] theorem fieldImm_packWord : fieldImm (packWord op row col imm idx ch len) = imm := by
  apply BitVec.eq_of_getElem_eq
  intro i hi
  simp only [fieldImm, packWord, BitVec.getElem_extractLsb', BitVec.getLsbD_append]
  interval_cases i <;> simp

@[simp] theorem fieldIdx_packWord : fieldIdx (packWord op row col imm idx ch len) = idx := by
  apply BitVec.eq_of_getElem_eq
  intro i hi
  simp only [fieldIdx, packWord, BitVec.getElem_extractLsb', BitVec.getLsbD_append]
  interval_cases i <;> simp

@[simp] theorem fieldCh_packWord : fieldCh (packWord op row col imm idx ch len) = ch := by
  apply BitVec.eq_of_getElem_eq
  intro i hi
  simp only [fieldCh, packWord, BitVec.getElem_extractLsb', BitVec.getLsbD_append]
  interval_cases i <;> simp

@[simp] theorem fieldLen_packWord : fieldLen (packWord op row col imm idx ch len) = len := by
  apply BitVec.eq_of_getElem_eq
  intro i hi
  simp only [fieldLen, packWord, BitVec.getElem_extractLsb', BitVec.getLsbD_append]
  interval_cases i <;> simp

end Fields

/-- Masking works field by field. -/
theorem packWord_and (op op' : BitVec 6) (row row' col col' : Coord) (imm imm' : Midi7) (idx idx' : VoiceIdx)
    (ch ch' : Channel) (len len' : BitVec 4) :
    packWord op row col imm idx ch len &&& packWord op' row' col' imm' idx' ch' len' =
      packWord (op &&& op') (row &&& row') (col &&& col') (imm &&& imm') (idx &&& idx') (ch &&& ch') (len &&& len') := by
  unfold packWord
  apply BitVec.eq_of_getLsbD_eq
  intro i hi
  rw [BitVec.getLsbD_and]
  simp only [BitVec.getLsbD_append, BitVec.getLsbD_and]
  repeat' split
  all_goals rfl

/-- A word is the packing of its own fields: no bit belongs to none (R91). -/
theorem packWord_fields (w : CmdWord) :
    packWord (fieldOp w) (fieldRow w) (fieldCol w) (fieldImm w) (fieldIdx w) (fieldCh w) (fieldLen w) = w := by
  apply BitVec.eq_of_getLsbD_eq
  intro i hi
  simp only [fieldOp, fieldRow, fieldCol, fieldImm, fieldIdx, fieldCh, fieldLen, packWord, BitVec.getLsbD_extractLsb',
    BitVec.getLsbD_append]
  repeat' split
  all_goals
    rw [show (decide _ : Bool) = true from decide_eq_true (by omega), Bool.true_and]
    congr 1
    omega

end Sys2Proof
end

