-- ==== Sys2Proof/Laws/State.lean ====
section
/-! SUPPORT. One lemma per field per update of the state, each true by rfl, so that no proof unfolds an update; and for each
update, that it overwrites itself and that writing a field's own value changes nothing. -/

namespace Sys2Proof.Machine

/-! ### setBaseNote -/

@[simp] theorem State.setBaseNote_baseNote (s : State) (v : Midi7) : (s.setBaseNote v).baseNote = v := rfl
@[simp] theorem State.setBaseNote_pbRange (s : State) (v : Midi7) : (s.setBaseNote v).pbRange = s.pbRange := rfl
@[simp] theorem State.setBaseNote_zone (s : State) (v : Midi7) : (s.setBaseNote v).zone = s.zone := rfl
@[simp] theorem State.setBaseNote_numChannels (s : State) (v : Midi7) : (s.setBaseNote v).numChannels = s.numChannels := rfl
@[simp] theorem State.setBaseNote_filled (s : State) (v : Midi7) : (s.setBaseNote v).filled = s.filled := rfl
@[simp] theorem State.setBaseNote_numTaken (s : State) (v : Midi7) : (s.setBaseNote v).numTaken = s.numTaken := rfl
@[simp] theorem State.setBaseNote_settleCnt (s : State) (v : Midi7) : (s.setBaseNote v).settleCnt = s.settleCnt := rfl
@[simp] theorem State.setBaseNote_stickyErr (s : State) (v : Midi7) : (s.setBaseNote v).stickyErr = s.stickyErr := rfl
@[simp] theorem State.setBaseNote_stage (s : State) (v : Midi7) : (s.setBaseNote v).stage = s.stage := rfl
@[simp] theorem State.setBaseNote_voices (s : State) (v : Midi7) : (s.setBaseNote v).voices = s.voices := rfl
@[simp] theorem State.setBaseNote_queue (s : State) (v : Midi7) : (s.setBaseNote v).queue = s.queue := rfl
@[simp] theorem State.setBaseNote_notes (s : State) (v : Midi7) : (s.setBaseNote v).notes = s.notes := rfl
@[simp] theorem State.setBaseNote_resp (s : State) (v : Midi7) : (s.setBaseNote v).resp = s.resp := rfl
@[simp] theorem State.setBaseNote_out (s : State) (v : Midi7) : (s.setBaseNote v).out = s.out := rfl
@[simp] theorem State.setBaseNote_cmdidx (s : State) (v : Midi7) : (s.setBaseNote v).cmdidx = s.cmdidx := rfl
@[simp] theorem State.setBaseNote_params (s : State) (v : Midi7) : (s.setBaseNote v).params = s.params := rfl
@[simp] theorem State.setBaseNote_program (s : State) (v : Midi7) : (s.setBaseNote v).program = s.program := rfl
@[simp] theorem State.setBaseNote_resetReq (s : State) (v : Midi7) : (s.setBaseNote v).resetReq = s.resetReq := rfl
theorem State.setBaseNote_self (s : State) : s.setBaseNote s.baseNote = s := rfl
theorem State.setBaseNote_twice (s : State) (v w : Midi7) : (s.setBaseNote v).setBaseNote w = s.setBaseNote w := rfl

/-! ### setPbRange -/

@[simp] theorem State.setPbRange_baseNote (s : State) (v : Midi7) : (s.setPbRange v).baseNote = s.baseNote := rfl
@[simp] theorem State.setPbRange_pbRange (s : State) (v : Midi7) : (s.setPbRange v).pbRange = v := rfl
@[simp] theorem State.setPbRange_zone (s : State) (v : Midi7) : (s.setPbRange v).zone = s.zone := rfl
@[simp] theorem State.setPbRange_numChannels (s : State) (v : Midi7) : (s.setPbRange v).numChannels = s.numChannels := rfl
@[simp] theorem State.setPbRange_filled (s : State) (v : Midi7) : (s.setPbRange v).filled = s.filled := rfl
@[simp] theorem State.setPbRange_numTaken (s : State) (v : Midi7) : (s.setPbRange v).numTaken = s.numTaken := rfl
@[simp] theorem State.setPbRange_settleCnt (s : State) (v : Midi7) : (s.setPbRange v).settleCnt = s.settleCnt := rfl
@[simp] theorem State.setPbRange_stickyErr (s : State) (v : Midi7) : (s.setPbRange v).stickyErr = s.stickyErr := rfl
@[simp] theorem State.setPbRange_stage (s : State) (v : Midi7) : (s.setPbRange v).stage = s.stage := rfl
@[simp] theorem State.setPbRange_voices (s : State) (v : Midi7) : (s.setPbRange v).voices = s.voices := rfl
@[simp] theorem State.setPbRange_queue (s : State) (v : Midi7) : (s.setPbRange v).queue = s.queue := rfl
@[simp] theorem State.setPbRange_notes (s : State) (v : Midi7) : (s.setPbRange v).notes = s.notes := rfl
@[simp] theorem State.setPbRange_resp (s : State) (v : Midi7) : (s.setPbRange v).resp = s.resp := rfl
@[simp] theorem State.setPbRange_out (s : State) (v : Midi7) : (s.setPbRange v).out = s.out := rfl
@[simp] theorem State.setPbRange_cmdidx (s : State) (v : Midi7) : (s.setPbRange v).cmdidx = s.cmdidx := rfl
@[simp] theorem State.setPbRange_params (s : State) (v : Midi7) : (s.setPbRange v).params = s.params := rfl
@[simp] theorem State.setPbRange_program (s : State) (v : Midi7) : (s.setPbRange v).program = s.program := rfl
@[simp] theorem State.setPbRange_resetReq (s : State) (v : Midi7) : (s.setPbRange v).resetReq = s.resetReq := rfl
theorem State.setPbRange_self (s : State) : s.setPbRange s.pbRange = s := rfl
theorem State.setPbRange_twice (s : State) (v w : Midi7) : (s.setPbRange v).setPbRange w = s.setPbRange w := rfl

/-! ### setFilled -/

@[simp] theorem State.setFilled_baseNote (s : State) (v : Bool) : (s.setFilled v).baseNote = s.baseNote := rfl
@[simp] theorem State.setFilled_pbRange (s : State) (v : Bool) : (s.setFilled v).pbRange = s.pbRange := rfl
@[simp] theorem State.setFilled_zone (s : State) (v : Bool) : (s.setFilled v).zone = s.zone := rfl
@[simp] theorem State.setFilled_numChannels (s : State) (v : Bool) : (s.setFilled v).numChannels = s.numChannels := rfl
@[simp] theorem State.setFilled_filled (s : State) (v : Bool) : (s.setFilled v).filled = v := rfl
@[simp] theorem State.setFilled_numTaken (s : State) (v : Bool) : (s.setFilled v).numTaken = s.numTaken := rfl
@[simp] theorem State.setFilled_settleCnt (s : State) (v : Bool) : (s.setFilled v).settleCnt = s.settleCnt := rfl
@[simp] theorem State.setFilled_stickyErr (s : State) (v : Bool) : (s.setFilled v).stickyErr = s.stickyErr := rfl
@[simp] theorem State.setFilled_stage (s : State) (v : Bool) : (s.setFilled v).stage = s.stage := rfl
@[simp] theorem State.setFilled_voices (s : State) (v : Bool) : (s.setFilled v).voices = s.voices := rfl
@[simp] theorem State.setFilled_queue (s : State) (v : Bool) : (s.setFilled v).queue = s.queue := rfl
@[simp] theorem State.setFilled_notes (s : State) (v : Bool) : (s.setFilled v).notes = s.notes := rfl
@[simp] theorem State.setFilled_resp (s : State) (v : Bool) : (s.setFilled v).resp = s.resp := rfl
@[simp] theorem State.setFilled_out (s : State) (v : Bool) : (s.setFilled v).out = s.out := rfl
@[simp] theorem State.setFilled_cmdidx (s : State) (v : Bool) : (s.setFilled v).cmdidx = s.cmdidx := rfl
@[simp] theorem State.setFilled_params (s : State) (v : Bool) : (s.setFilled v).params = s.params := rfl
@[simp] theorem State.setFilled_program (s : State) (v : Bool) : (s.setFilled v).program = s.program := rfl
@[simp] theorem State.setFilled_resetReq (s : State) (v : Bool) : (s.setFilled v).resetReq = s.resetReq := rfl
theorem State.setFilled_self (s : State) : s.setFilled s.filled = s := rfl
theorem State.setFilled_twice (s : State) (v w : Bool) : (s.setFilled v).setFilled w = s.setFilled w := rfl

/-! ### setNumTaken -/

@[simp] theorem State.setNumTaken_baseNote (s : State) (v : BitVec 4) : (s.setNumTaken v).baseNote = s.baseNote := rfl
@[simp] theorem State.setNumTaken_pbRange (s : State) (v : BitVec 4) : (s.setNumTaken v).pbRange = s.pbRange := rfl
@[simp] theorem State.setNumTaken_zone (s : State) (v : BitVec 4) : (s.setNumTaken v).zone = s.zone := rfl
@[simp] theorem State.setNumTaken_numChannels (s : State) (v : BitVec 4) : (s.setNumTaken v).numChannels = s.numChannels := rfl
@[simp] theorem State.setNumTaken_filled (s : State) (v : BitVec 4) : (s.setNumTaken v).filled = s.filled := rfl
@[simp] theorem State.setNumTaken_numTaken (s : State) (v : BitVec 4) : (s.setNumTaken v).numTaken = v := rfl
@[simp] theorem State.setNumTaken_settleCnt (s : State) (v : BitVec 4) : (s.setNumTaken v).settleCnt = s.settleCnt := rfl
@[simp] theorem State.setNumTaken_stickyErr (s : State) (v : BitVec 4) : (s.setNumTaken v).stickyErr = s.stickyErr := rfl
@[simp] theorem State.setNumTaken_stage (s : State) (v : BitVec 4) : (s.setNumTaken v).stage = s.stage := rfl
@[simp] theorem State.setNumTaken_voices (s : State) (v : BitVec 4) : (s.setNumTaken v).voices = s.voices := rfl
@[simp] theorem State.setNumTaken_queue (s : State) (v : BitVec 4) : (s.setNumTaken v).queue = s.queue := rfl
@[simp] theorem State.setNumTaken_notes (s : State) (v : BitVec 4) : (s.setNumTaken v).notes = s.notes := rfl
@[simp] theorem State.setNumTaken_resp (s : State) (v : BitVec 4) : (s.setNumTaken v).resp = s.resp := rfl
@[simp] theorem State.setNumTaken_out (s : State) (v : BitVec 4) : (s.setNumTaken v).out = s.out := rfl
@[simp] theorem State.setNumTaken_cmdidx (s : State) (v : BitVec 4) : (s.setNumTaken v).cmdidx = s.cmdidx := rfl
@[simp] theorem State.setNumTaken_params (s : State) (v : BitVec 4) : (s.setNumTaken v).params = s.params := rfl
@[simp] theorem State.setNumTaken_program (s : State) (v : BitVec 4) : (s.setNumTaken v).program = s.program := rfl
@[simp] theorem State.setNumTaken_resetReq (s : State) (v : BitVec 4) : (s.setNumTaken v).resetReq = s.resetReq := rfl
theorem State.setNumTaken_self (s : State) : s.setNumTaken s.numTaken = s := rfl
theorem State.setNumTaken_twice (s : State) (v w : BitVec 4) : (s.setNumTaken v).setNumTaken w = s.setNumTaken w := rfl

/-! ### setSettleCnt -/

@[simp] theorem State.setSettleCnt_baseNote (s : State) (v : BitVec 16) : (s.setSettleCnt v).baseNote = s.baseNote := rfl
@[simp] theorem State.setSettleCnt_pbRange (s : State) (v : BitVec 16) : (s.setSettleCnt v).pbRange = s.pbRange := rfl
@[simp] theorem State.setSettleCnt_zone (s : State) (v : BitVec 16) : (s.setSettleCnt v).zone = s.zone := rfl
@[simp] theorem State.setSettleCnt_numChannels (s : State) (v : BitVec 16) : (s.setSettleCnt v).numChannels = s.numChannels := rfl
@[simp] theorem State.setSettleCnt_filled (s : State) (v : BitVec 16) : (s.setSettleCnt v).filled = s.filled := rfl
@[simp] theorem State.setSettleCnt_numTaken (s : State) (v : BitVec 16) : (s.setSettleCnt v).numTaken = s.numTaken := rfl
@[simp] theorem State.setSettleCnt_settleCnt (s : State) (v : BitVec 16) : (s.setSettleCnt v).settleCnt = v := rfl
@[simp] theorem State.setSettleCnt_stickyErr (s : State) (v : BitVec 16) : (s.setSettleCnt v).stickyErr = s.stickyErr := rfl
@[simp] theorem State.setSettleCnt_stage (s : State) (v : BitVec 16) : (s.setSettleCnt v).stage = s.stage := rfl
@[simp] theorem State.setSettleCnt_voices (s : State) (v : BitVec 16) : (s.setSettleCnt v).voices = s.voices := rfl
@[simp] theorem State.setSettleCnt_queue (s : State) (v : BitVec 16) : (s.setSettleCnt v).queue = s.queue := rfl
@[simp] theorem State.setSettleCnt_notes (s : State) (v : BitVec 16) : (s.setSettleCnt v).notes = s.notes := rfl
@[simp] theorem State.setSettleCnt_resp (s : State) (v : BitVec 16) : (s.setSettleCnt v).resp = s.resp := rfl
@[simp] theorem State.setSettleCnt_out (s : State) (v : BitVec 16) : (s.setSettleCnt v).out = s.out := rfl
@[simp] theorem State.setSettleCnt_cmdidx (s : State) (v : BitVec 16) : (s.setSettleCnt v).cmdidx = s.cmdidx := rfl
@[simp] theorem State.setSettleCnt_params (s : State) (v : BitVec 16) : (s.setSettleCnt v).params = s.params := rfl
@[simp] theorem State.setSettleCnt_program (s : State) (v : BitVec 16) : (s.setSettleCnt v).program = s.program := rfl
@[simp] theorem State.setSettleCnt_resetReq (s : State) (v : BitVec 16) : (s.setSettleCnt v).resetReq = s.resetReq := rfl
theorem State.setSettleCnt_self (s : State) : s.setSettleCnt s.settleCnt = s := rfl
theorem State.setSettleCnt_twice (s : State) (v w : BitVec 16) : (s.setSettleCnt v).setSettleCnt w = s.setSettleCnt w := rfl

/-! ### setStickyErr -/

@[simp] theorem State.setStickyErr_baseNote (s : State) (v : Bool) : (s.setStickyErr v).baseNote = s.baseNote := rfl
@[simp] theorem State.setStickyErr_pbRange (s : State) (v : Bool) : (s.setStickyErr v).pbRange = s.pbRange := rfl
@[simp] theorem State.setStickyErr_zone (s : State) (v : Bool) : (s.setStickyErr v).zone = s.zone := rfl
@[simp] theorem State.setStickyErr_numChannels (s : State) (v : Bool) : (s.setStickyErr v).numChannels = s.numChannels := rfl
@[simp] theorem State.setStickyErr_filled (s : State) (v : Bool) : (s.setStickyErr v).filled = s.filled := rfl
@[simp] theorem State.setStickyErr_numTaken (s : State) (v : Bool) : (s.setStickyErr v).numTaken = s.numTaken := rfl
@[simp] theorem State.setStickyErr_settleCnt (s : State) (v : Bool) : (s.setStickyErr v).settleCnt = s.settleCnt := rfl
@[simp] theorem State.setStickyErr_stickyErr (s : State) (v : Bool) : (s.setStickyErr v).stickyErr = v := rfl
@[simp] theorem State.setStickyErr_stage (s : State) (v : Bool) : (s.setStickyErr v).stage = s.stage := rfl
@[simp] theorem State.setStickyErr_voices (s : State) (v : Bool) : (s.setStickyErr v).voices = s.voices := rfl
@[simp] theorem State.setStickyErr_queue (s : State) (v : Bool) : (s.setStickyErr v).queue = s.queue := rfl
@[simp] theorem State.setStickyErr_notes (s : State) (v : Bool) : (s.setStickyErr v).notes = s.notes := rfl
@[simp] theorem State.setStickyErr_resp (s : State) (v : Bool) : (s.setStickyErr v).resp = s.resp := rfl
@[simp] theorem State.setStickyErr_out (s : State) (v : Bool) : (s.setStickyErr v).out = s.out := rfl
@[simp] theorem State.setStickyErr_cmdidx (s : State) (v : Bool) : (s.setStickyErr v).cmdidx = s.cmdidx := rfl
@[simp] theorem State.setStickyErr_params (s : State) (v : Bool) : (s.setStickyErr v).params = s.params := rfl
@[simp] theorem State.setStickyErr_program (s : State) (v : Bool) : (s.setStickyErr v).program = s.program := rfl
@[simp] theorem State.setStickyErr_resetReq (s : State) (v : Bool) : (s.setStickyErr v).resetReq = s.resetReq := rfl
theorem State.setStickyErr_self (s : State) : s.setStickyErr s.stickyErr = s := rfl
theorem State.setStickyErr_twice (s : State) (v w : Bool) : (s.setStickyErr v).setStickyErr w = s.setStickyErr w := rfl

/-! ### setStage -/

@[simp] theorem State.setStage_baseNote (s : State) (v : List Channel) : (s.setStage v).baseNote = s.baseNote := rfl
@[simp] theorem State.setStage_pbRange (s : State) (v : List Channel) : (s.setStage v).pbRange = s.pbRange := rfl
@[simp] theorem State.setStage_zone (s : State) (v : List Channel) : (s.setStage v).zone = s.zone := rfl
@[simp] theorem State.setStage_numChannels (s : State) (v : List Channel) : (s.setStage v).numChannels = s.numChannels := rfl
@[simp] theorem State.setStage_filled (s : State) (v : List Channel) : (s.setStage v).filled = s.filled := rfl
@[simp] theorem State.setStage_numTaken (s : State) (v : List Channel) : (s.setStage v).numTaken = s.numTaken := rfl
@[simp] theorem State.setStage_settleCnt (s : State) (v : List Channel) : (s.setStage v).settleCnt = s.settleCnt := rfl
@[simp] theorem State.setStage_stickyErr (s : State) (v : List Channel) : (s.setStage v).stickyErr = s.stickyErr := rfl
@[simp] theorem State.setStage_stage (s : State) (v : List Channel) : (s.setStage v).stage = v := rfl
@[simp] theorem State.setStage_voices (s : State) (v : List Channel) : (s.setStage v).voices = s.voices := rfl
@[simp] theorem State.setStage_queue (s : State) (v : List Channel) : (s.setStage v).queue = s.queue := rfl
@[simp] theorem State.setStage_notes (s : State) (v : List Channel) : (s.setStage v).notes = s.notes := rfl
@[simp] theorem State.setStage_resp (s : State) (v : List Channel) : (s.setStage v).resp = s.resp := rfl
@[simp] theorem State.setStage_out (s : State) (v : List Channel) : (s.setStage v).out = s.out := rfl
@[simp] theorem State.setStage_cmdidx (s : State) (v : List Channel) : (s.setStage v).cmdidx = s.cmdidx := rfl
@[simp] theorem State.setStage_params (s : State) (v : List Channel) : (s.setStage v).params = s.params := rfl
@[simp] theorem State.setStage_program (s : State) (v : List Channel) : (s.setStage v).program = s.program := rfl
@[simp] theorem State.setStage_resetReq (s : State) (v : List Channel) : (s.setStage v).resetReq = s.resetReq := rfl
theorem State.setStage_self (s : State) : s.setStage s.stage = s := rfl
theorem State.setStage_twice (s : State) (v w : List Channel) : (s.setStage v).setStage w = s.setStage w := rfl

/-! ### setVoices -/

@[simp] theorem State.setVoices_baseNote (s : State) (v : List Voice) : (s.setVoices v).baseNote = s.baseNote := rfl
@[simp] theorem State.setVoices_pbRange (s : State) (v : List Voice) : (s.setVoices v).pbRange = s.pbRange := rfl
@[simp] theorem State.setVoices_zone (s : State) (v : List Voice) : (s.setVoices v).zone = s.zone := rfl
@[simp] theorem State.setVoices_numChannels (s : State) (v : List Voice) : (s.setVoices v).numChannels = s.numChannels := rfl
@[simp] theorem State.setVoices_filled (s : State) (v : List Voice) : (s.setVoices v).filled = s.filled := rfl
@[simp] theorem State.setVoices_numTaken (s : State) (v : List Voice) : (s.setVoices v).numTaken = s.numTaken := rfl
@[simp] theorem State.setVoices_settleCnt (s : State) (v : List Voice) : (s.setVoices v).settleCnt = s.settleCnt := rfl
@[simp] theorem State.setVoices_stickyErr (s : State) (v : List Voice) : (s.setVoices v).stickyErr = s.stickyErr := rfl
@[simp] theorem State.setVoices_stage (s : State) (v : List Voice) : (s.setVoices v).stage = s.stage := rfl
@[simp] theorem State.setVoices_voices (s : State) (v : List Voice) : (s.setVoices v).voices = v := rfl
@[simp] theorem State.setVoices_queue (s : State) (v : List Voice) : (s.setVoices v).queue = s.queue := rfl
@[simp] theorem State.setVoices_notes (s : State) (v : List Voice) : (s.setVoices v).notes = s.notes := rfl
@[simp] theorem State.setVoices_resp (s : State) (v : List Voice) : (s.setVoices v).resp = s.resp := rfl
@[simp] theorem State.setVoices_out (s : State) (v : List Voice) : (s.setVoices v).out = s.out := rfl
@[simp] theorem State.setVoices_cmdidx (s : State) (v : List Voice) : (s.setVoices v).cmdidx = s.cmdidx := rfl
@[simp] theorem State.setVoices_params (s : State) (v : List Voice) : (s.setVoices v).params = s.params := rfl
@[simp] theorem State.setVoices_program (s : State) (v : List Voice) : (s.setVoices v).program = s.program := rfl
@[simp] theorem State.setVoices_resetReq (s : State) (v : List Voice) : (s.setVoices v).resetReq = s.resetReq := rfl
theorem State.setVoices_self (s : State) : s.setVoices s.voices = s := rfl
theorem State.setVoices_twice (s : State) (v w : List Voice) : (s.setVoices v).setVoices w = s.setVoices w := rfl

/-! ### setQueue -/

@[simp] theorem State.setQueue_baseNote (s : State) (v : List VoiceIdx) : (s.setQueue v).baseNote = s.baseNote := rfl
@[simp] theorem State.setQueue_pbRange (s : State) (v : List VoiceIdx) : (s.setQueue v).pbRange = s.pbRange := rfl
@[simp] theorem State.setQueue_zone (s : State) (v : List VoiceIdx) : (s.setQueue v).zone = s.zone := rfl
@[simp] theorem State.setQueue_numChannels (s : State) (v : List VoiceIdx) : (s.setQueue v).numChannels = s.numChannels := rfl
@[simp] theorem State.setQueue_filled (s : State) (v : List VoiceIdx) : (s.setQueue v).filled = s.filled := rfl
@[simp] theorem State.setQueue_numTaken (s : State) (v : List VoiceIdx) : (s.setQueue v).numTaken = s.numTaken := rfl
@[simp] theorem State.setQueue_settleCnt (s : State) (v : List VoiceIdx) : (s.setQueue v).settleCnt = s.settleCnt := rfl
@[simp] theorem State.setQueue_stickyErr (s : State) (v : List VoiceIdx) : (s.setQueue v).stickyErr = s.stickyErr := rfl
@[simp] theorem State.setQueue_stage (s : State) (v : List VoiceIdx) : (s.setQueue v).stage = s.stage := rfl
@[simp] theorem State.setQueue_voices (s : State) (v : List VoiceIdx) : (s.setQueue v).voices = s.voices := rfl
@[simp] theorem State.setQueue_queue (s : State) (v : List VoiceIdx) : (s.setQueue v).queue = v := rfl
@[simp] theorem State.setQueue_notes (s : State) (v : List VoiceIdx) : (s.setQueue v).notes = s.notes := rfl
@[simp] theorem State.setQueue_resp (s : State) (v : List VoiceIdx) : (s.setQueue v).resp = s.resp := rfl
@[simp] theorem State.setQueue_out (s : State) (v : List VoiceIdx) : (s.setQueue v).out = s.out := rfl
@[simp] theorem State.setQueue_cmdidx (s : State) (v : List VoiceIdx) : (s.setQueue v).cmdidx = s.cmdidx := rfl
@[simp] theorem State.setQueue_params (s : State) (v : List VoiceIdx) : (s.setQueue v).params = s.params := rfl
@[simp] theorem State.setQueue_program (s : State) (v : List VoiceIdx) : (s.setQueue v).program = s.program := rfl
@[simp] theorem State.setQueue_resetReq (s : State) (v : List VoiceIdx) : (s.setQueue v).resetReq = s.resetReq := rfl
theorem State.setQueue_self (s : State) : s.setQueue s.queue = s := rfl
theorem State.setQueue_twice (s : State) (v w : List VoiceIdx) : (s.setQueue v).setQueue w = s.setQueue w := rfl

/-! ### setNotes -/

@[simp] theorem State.setNotes_baseNote (s : State) (v : NoteCache) : (s.setNotes v).baseNote = s.baseNote := rfl
@[simp] theorem State.setNotes_pbRange (s : State) (v : NoteCache) : (s.setNotes v).pbRange = s.pbRange := rfl
@[simp] theorem State.setNotes_zone (s : State) (v : NoteCache) : (s.setNotes v).zone = s.zone := rfl
@[simp] theorem State.setNotes_numChannels (s : State) (v : NoteCache) : (s.setNotes v).numChannels = s.numChannels := rfl
@[simp] theorem State.setNotes_filled (s : State) (v : NoteCache) : (s.setNotes v).filled = s.filled := rfl
@[simp] theorem State.setNotes_numTaken (s : State) (v : NoteCache) : (s.setNotes v).numTaken = s.numTaken := rfl
@[simp] theorem State.setNotes_settleCnt (s : State) (v : NoteCache) : (s.setNotes v).settleCnt = s.settleCnt := rfl
@[simp] theorem State.setNotes_stickyErr (s : State) (v : NoteCache) : (s.setNotes v).stickyErr = s.stickyErr := rfl
@[simp] theorem State.setNotes_stage (s : State) (v : NoteCache) : (s.setNotes v).stage = s.stage := rfl
@[simp] theorem State.setNotes_voices (s : State) (v : NoteCache) : (s.setNotes v).voices = s.voices := rfl
@[simp] theorem State.setNotes_queue (s : State) (v : NoteCache) : (s.setNotes v).queue = s.queue := rfl
@[simp] theorem State.setNotes_notes (s : State) (v : NoteCache) : (s.setNotes v).notes = v := rfl
@[simp] theorem State.setNotes_resp (s : State) (v : NoteCache) : (s.setNotes v).resp = s.resp := rfl
@[simp] theorem State.setNotes_out (s : State) (v : NoteCache) : (s.setNotes v).out = s.out := rfl
@[simp] theorem State.setNotes_cmdidx (s : State) (v : NoteCache) : (s.setNotes v).cmdidx = s.cmdidx := rfl
@[simp] theorem State.setNotes_params (s : State) (v : NoteCache) : (s.setNotes v).params = s.params := rfl
@[simp] theorem State.setNotes_program (s : State) (v : NoteCache) : (s.setNotes v).program = s.program := rfl
@[simp] theorem State.setNotes_resetReq (s : State) (v : NoteCache) : (s.setNotes v).resetReq = s.resetReq := rfl
theorem State.setNotes_self (s : State) : s.setNotes s.notes = s := rfl
theorem State.setNotes_twice (s : State) (v w : NoteCache) : (s.setNotes v).setNotes w = s.setNotes w := rfl

/-! ### setResp -/

@[simp] theorem State.setResp_baseNote (s : State) (v : RespWord) : (s.setResp v).baseNote = s.baseNote := rfl
@[simp] theorem State.setResp_pbRange (s : State) (v : RespWord) : (s.setResp v).pbRange = s.pbRange := rfl
@[simp] theorem State.setResp_zone (s : State) (v : RespWord) : (s.setResp v).zone = s.zone := rfl
@[simp] theorem State.setResp_numChannels (s : State) (v : RespWord) : (s.setResp v).numChannels = s.numChannels := rfl
@[simp] theorem State.setResp_filled (s : State) (v : RespWord) : (s.setResp v).filled = s.filled := rfl
@[simp] theorem State.setResp_numTaken (s : State) (v : RespWord) : (s.setResp v).numTaken = s.numTaken := rfl
@[simp] theorem State.setResp_settleCnt (s : State) (v : RespWord) : (s.setResp v).settleCnt = s.settleCnt := rfl
@[simp] theorem State.setResp_stickyErr (s : State) (v : RespWord) : (s.setResp v).stickyErr = s.stickyErr := rfl
@[simp] theorem State.setResp_stage (s : State) (v : RespWord) : (s.setResp v).stage = s.stage := rfl
@[simp] theorem State.setResp_voices (s : State) (v : RespWord) : (s.setResp v).voices = s.voices := rfl
@[simp] theorem State.setResp_queue (s : State) (v : RespWord) : (s.setResp v).queue = s.queue := rfl
@[simp] theorem State.setResp_notes (s : State) (v : RespWord) : (s.setResp v).notes = s.notes := rfl
@[simp] theorem State.setResp_resp (s : State) (v : RespWord) : (s.setResp v).resp = v := rfl
@[simp] theorem State.setResp_out (s : State) (v : RespWord) : (s.setResp v).out = s.out := rfl
@[simp] theorem State.setResp_cmdidx (s : State) (v : RespWord) : (s.setResp v).cmdidx = s.cmdidx := rfl
@[simp] theorem State.setResp_params (s : State) (v : RespWord) : (s.setResp v).params = s.params := rfl
@[simp] theorem State.setResp_program (s : State) (v : RespWord) : (s.setResp v).program = s.program := rfl
@[simp] theorem State.setResp_resetReq (s : State) (v : RespWord) : (s.setResp v).resetReq = s.resetReq := rfl
theorem State.setResp_self (s : State) : s.setResp s.resp = s := rfl
theorem State.setResp_twice (s : State) (v w : RespWord) : (s.setResp v).setResp w = s.setResp w := rfl

/-! ### setOut -/

@[simp] theorem State.setOut_baseNote (s : State) (v : List (List Msg)) : (s.setOut v).baseNote = s.baseNote := rfl
@[simp] theorem State.setOut_pbRange (s : State) (v : List (List Msg)) : (s.setOut v).pbRange = s.pbRange := rfl
@[simp] theorem State.setOut_zone (s : State) (v : List (List Msg)) : (s.setOut v).zone = s.zone := rfl
@[simp] theorem State.setOut_numChannels (s : State) (v : List (List Msg)) : (s.setOut v).numChannels = s.numChannels := rfl
@[simp] theorem State.setOut_filled (s : State) (v : List (List Msg)) : (s.setOut v).filled = s.filled := rfl
@[simp] theorem State.setOut_numTaken (s : State) (v : List (List Msg)) : (s.setOut v).numTaken = s.numTaken := rfl
@[simp] theorem State.setOut_settleCnt (s : State) (v : List (List Msg)) : (s.setOut v).settleCnt = s.settleCnt := rfl
@[simp] theorem State.setOut_stickyErr (s : State) (v : List (List Msg)) : (s.setOut v).stickyErr = s.stickyErr := rfl
@[simp] theorem State.setOut_stage (s : State) (v : List (List Msg)) : (s.setOut v).stage = s.stage := rfl
@[simp] theorem State.setOut_voices (s : State) (v : List (List Msg)) : (s.setOut v).voices = s.voices := rfl
@[simp] theorem State.setOut_queue (s : State) (v : List (List Msg)) : (s.setOut v).queue = s.queue := rfl
@[simp] theorem State.setOut_notes (s : State) (v : List (List Msg)) : (s.setOut v).notes = s.notes := rfl
@[simp] theorem State.setOut_resp (s : State) (v : List (List Msg)) : (s.setOut v).resp = s.resp := rfl
@[simp] theorem State.setOut_out (s : State) (v : List (List Msg)) : (s.setOut v).out = v := rfl
@[simp] theorem State.setOut_cmdidx (s : State) (v : List (List Msg)) : (s.setOut v).cmdidx = s.cmdidx := rfl
@[simp] theorem State.setOut_params (s : State) (v : List (List Msg)) : (s.setOut v).params = s.params := rfl
@[simp] theorem State.setOut_program (s : State) (v : List (List Msg)) : (s.setOut v).program = s.program := rfl
@[simp] theorem State.setOut_resetReq (s : State) (v : List (List Msg)) : (s.setOut v).resetReq = s.resetReq := rfl
theorem State.setOut_self (s : State) : s.setOut s.out = s := rfl
theorem State.setOut_twice (s : State) (v w : List (List Msg)) : (s.setOut v).setOut w = s.setOut w := rfl

/-! ### setCmdidx -/

@[simp] theorem State.setCmdidx_baseNote (s : State) (v : Nat) : (s.setCmdidx v).baseNote = s.baseNote := rfl
@[simp] theorem State.setCmdidx_pbRange (s : State) (v : Nat) : (s.setCmdidx v).pbRange = s.pbRange := rfl
@[simp] theorem State.setCmdidx_zone (s : State) (v : Nat) : (s.setCmdidx v).zone = s.zone := rfl
@[simp] theorem State.setCmdidx_numChannels (s : State) (v : Nat) : (s.setCmdidx v).numChannels = s.numChannels := rfl
@[simp] theorem State.setCmdidx_filled (s : State) (v : Nat) : (s.setCmdidx v).filled = s.filled := rfl
@[simp] theorem State.setCmdidx_numTaken (s : State) (v : Nat) : (s.setCmdidx v).numTaken = s.numTaken := rfl
@[simp] theorem State.setCmdidx_settleCnt (s : State) (v : Nat) : (s.setCmdidx v).settleCnt = s.settleCnt := rfl
@[simp] theorem State.setCmdidx_stickyErr (s : State) (v : Nat) : (s.setCmdidx v).stickyErr = s.stickyErr := rfl
@[simp] theorem State.setCmdidx_stage (s : State) (v : Nat) : (s.setCmdidx v).stage = s.stage := rfl
@[simp] theorem State.setCmdidx_voices (s : State) (v : Nat) : (s.setCmdidx v).voices = s.voices := rfl
@[simp] theorem State.setCmdidx_queue (s : State) (v : Nat) : (s.setCmdidx v).queue = s.queue := rfl
@[simp] theorem State.setCmdidx_notes (s : State) (v : Nat) : (s.setCmdidx v).notes = s.notes := rfl
@[simp] theorem State.setCmdidx_resp (s : State) (v : Nat) : (s.setCmdidx v).resp = s.resp := rfl
@[simp] theorem State.setCmdidx_out (s : State) (v : Nat) : (s.setCmdidx v).out = s.out := rfl
@[simp] theorem State.setCmdidx_cmdidx (s : State) (v : Nat) : (s.setCmdidx v).cmdidx = v := rfl
@[simp] theorem State.setCmdidx_params (s : State) (v : Nat) : (s.setCmdidx v).params = s.params := rfl
@[simp] theorem State.setCmdidx_program (s : State) (v : Nat) : (s.setCmdidx v).program = s.program := rfl
@[simp] theorem State.setCmdidx_resetReq (s : State) (v : Nat) : (s.setCmdidx v).resetReq = s.resetReq := rfl
theorem State.setCmdidx_self (s : State) : s.setCmdidx s.cmdidx = s := rfl
theorem State.setCmdidx_twice (s : State) (v w : Nat) : (s.setCmdidx v).setCmdidx w = s.setCmdidx w := rfl

/-! ### setProgram -/

@[simp] theorem State.setProgram_baseNote (s : State) (v : List CmdWord) : (s.setProgram v).baseNote = s.baseNote := rfl
@[simp] theorem State.setProgram_pbRange (s : State) (v : List CmdWord) : (s.setProgram v).pbRange = s.pbRange := rfl
@[simp] theorem State.setProgram_zone (s : State) (v : List CmdWord) : (s.setProgram v).zone = s.zone := rfl
@[simp] theorem State.setProgram_numChannels (s : State) (v : List CmdWord) : (s.setProgram v).numChannels = s.numChannels := rfl
@[simp] theorem State.setProgram_filled (s : State) (v : List CmdWord) : (s.setProgram v).filled = s.filled := rfl
@[simp] theorem State.setProgram_numTaken (s : State) (v : List CmdWord) : (s.setProgram v).numTaken = s.numTaken := rfl
@[simp] theorem State.setProgram_settleCnt (s : State) (v : List CmdWord) : (s.setProgram v).settleCnt = s.settleCnt := rfl
@[simp] theorem State.setProgram_stickyErr (s : State) (v : List CmdWord) : (s.setProgram v).stickyErr = s.stickyErr := rfl
@[simp] theorem State.setProgram_stage (s : State) (v : List CmdWord) : (s.setProgram v).stage = s.stage := rfl
@[simp] theorem State.setProgram_voices (s : State) (v : List CmdWord) : (s.setProgram v).voices = s.voices := rfl
@[simp] theorem State.setProgram_queue (s : State) (v : List CmdWord) : (s.setProgram v).queue = s.queue := rfl
@[simp] theorem State.setProgram_notes (s : State) (v : List CmdWord) : (s.setProgram v).notes = s.notes := rfl
@[simp] theorem State.setProgram_resp (s : State) (v : List CmdWord) : (s.setProgram v).resp = s.resp := rfl
@[simp] theorem State.setProgram_out (s : State) (v : List CmdWord) : (s.setProgram v).out = s.out := rfl
@[simp] theorem State.setProgram_cmdidx (s : State) (v : List CmdWord) : (s.setProgram v).cmdidx = s.cmdidx := rfl
@[simp] theorem State.setProgram_params (s : State) (v : List CmdWord) : (s.setProgram v).params = s.params := rfl
@[simp] theorem State.setProgram_program (s : State) (v : List CmdWord) : (s.setProgram v).program = v := rfl
@[simp] theorem State.setProgram_resetReq (s : State) (v : List CmdWord) : (s.setProgram v).resetReq = s.resetReq := rfl
theorem State.setProgram_self (s : State) : s.setProgram s.program = s := rfl
theorem State.setProgram_twice (s : State) (v w : List CmdWord) : (s.setProgram v).setProgram w = s.setProgram w := rfl

/-! ### setResetReq -/

@[simp] theorem State.setResetReq_baseNote (s : State) (v : Bool) : (s.setResetReq v).baseNote = s.baseNote := rfl
@[simp] theorem State.setResetReq_pbRange (s : State) (v : Bool) : (s.setResetReq v).pbRange = s.pbRange := rfl
@[simp] theorem State.setResetReq_zone (s : State) (v : Bool) : (s.setResetReq v).zone = s.zone := rfl
@[simp] theorem State.setResetReq_numChannels (s : State) (v : Bool) : (s.setResetReq v).numChannels = s.numChannels := rfl
@[simp] theorem State.setResetReq_filled (s : State) (v : Bool) : (s.setResetReq v).filled = s.filled := rfl
@[simp] theorem State.setResetReq_numTaken (s : State) (v : Bool) : (s.setResetReq v).numTaken = s.numTaken := rfl
@[simp] theorem State.setResetReq_settleCnt (s : State) (v : Bool) : (s.setResetReq v).settleCnt = s.settleCnt := rfl
@[simp] theorem State.setResetReq_stickyErr (s : State) (v : Bool) : (s.setResetReq v).stickyErr = s.stickyErr := rfl
@[simp] theorem State.setResetReq_stage (s : State) (v : Bool) : (s.setResetReq v).stage = s.stage := rfl
@[simp] theorem State.setResetReq_voices (s : State) (v : Bool) : (s.setResetReq v).voices = s.voices := rfl
@[simp] theorem State.setResetReq_queue (s : State) (v : Bool) : (s.setResetReq v).queue = s.queue := rfl
@[simp] theorem State.setResetReq_notes (s : State) (v : Bool) : (s.setResetReq v).notes = s.notes := rfl
@[simp] theorem State.setResetReq_resp (s : State) (v : Bool) : (s.setResetReq v).resp = s.resp := rfl
@[simp] theorem State.setResetReq_out (s : State) (v : Bool) : (s.setResetReq v).out = s.out := rfl
@[simp] theorem State.setResetReq_cmdidx (s : State) (v : Bool) : (s.setResetReq v).cmdidx = s.cmdidx := rfl
@[simp] theorem State.setResetReq_params (s : State) (v : Bool) : (s.setResetReq v).params = s.params := rfl
@[simp] theorem State.setResetReq_program (s : State) (v : Bool) : (s.setResetReq v).program = s.program := rfl
@[simp] theorem State.setResetReq_resetReq (s : State) (v : Bool) : (s.setResetReq v).resetReq = v := rfl
theorem State.setResetReq_self (s : State) : s.setResetReq s.resetReq = s := rfl
theorem State.setResetReq_twice (s : State) (v w : Bool) : (s.setResetReq v).setResetReq w = s.setResetReq w := rfl

/-! ### State.resetWith -/

@[simp] theorem State.resetWith_baseNote (p : Params) : (State.resetWith p).baseNote = p.cfgBaseNote := rfl
@[simp] theorem State.resetWith_pbRange (p : Params) : (State.resetWith p).pbRange = p.cfgPbRange := rfl
@[simp] theorem State.resetWith_zone (p : Params) : (State.resetWith p).zone = p.cfgZone := rfl
@[simp] theorem State.resetWith_numChannels (p : Params) : (State.resetWith p).numChannels = p.cfgNumCh := rfl
@[simp] theorem State.resetWith_filled (p : Params) : (State.resetWith p).filled = false := rfl
@[simp] theorem State.resetWith_numTaken (p : Params) : (State.resetWith p).numTaken = 0 := rfl
@[simp] theorem State.resetWith_settleCnt (p : Params) : (State.resetWith p).settleCnt = 0 := rfl
@[simp] theorem State.resetWith_stickyErr (p : Params) : (State.resetWith p).stickyErr = false := rfl
@[simp] theorem State.resetWith_stage (p : Params) : (State.resetWith p).stage = List.replicate p.n 0 := rfl
@[simp] theorem State.resetWith_voices (p : Params) : (State.resetWith p).voices = List.replicate p.n Voice.reset := rfl
@[simp] theorem State.resetWith_queue (p : Params) : (State.resetWith p).queue = [] := rfl
@[simp] theorem State.resetWith_notes (p : Params) : (State.resetWith p).notes = noteCache p.cfgBaseNote p.cfgPbRange p.toneRom := rfl
@[simp] theorem State.resetWith_resp (p : Params) : (State.resetWith p).resp = 0 := rfl
@[simp] theorem State.resetWith_out (p : Params) : (State.resetWith p).out = List.replicate p.numSinks [] := rfl
@[simp] theorem State.resetWith_cmdidx (p : Params) : (State.resetWith p).cmdidx = 0 := rfl
@[simp] theorem State.resetWith_params (p : Params) : (State.resetWith p).params = p := rfl
@[simp] theorem State.resetWith_program (p : Params) : (State.resetWith p).program = [] := rfl
@[simp] theorem State.resetWith_resetReq (p : Params) : (State.resetWith p).resetReq = false := rfl

end Sys2Proof.Machine
end

