-- ==== Sys2Proof/Laws/Ops.lean ====
section
/-! SUPPORT. One lemma for each shared operation that says once what it can do (TakeCore, ReleaseCore, FILL's loop, Emit, the
note cache, the end of a command), and the small lemmas of the accessors. -/

namespace Sys2Proof.Machine

/-! ### The end of a command -/

@[simp] theorem finish_resp (st : Status) (payload : Payload) (s : State) :
    (finish st payload s).resp = respWord st payload := rfl
@[simp] theorem finish_cmdidx (st : Status) (payload : Payload) (s : State) :
    (finish st payload s).cmdidx = s.cmdidx + 1 := rfl
@[simp] theorem finish_stickyErr (st : Status) (payload : Payload) (s : State) :
    (finish st payload s).stickyErr = stickyAfter st s.stickyErr := rfl
@[simp] theorem finish_baseNote (st : Status) (payload : Payload) (s : State) : (finish st payload s).baseNote = s.baseNote := rfl
@[simp] theorem finish_pbRange (st : Status) (payload : Payload) (s : State) : (finish st payload s).pbRange = s.pbRange := rfl
@[simp] theorem finish_zone (st : Status) (payload : Payload) (s : State) : (finish st payload s).zone = s.zone := rfl
@[simp] theorem finish_numChannels (st : Status) (payload : Payload) (s : State) : (finish st payload s).numChannels = s.numChannels := rfl
@[simp] theorem finish_filled (st : Status) (payload : Payload) (s : State) : (finish st payload s).filled = s.filled := rfl
@[simp] theorem finish_numTaken (st : Status) (payload : Payload) (s : State) : (finish st payload s).numTaken = s.numTaken := rfl
@[simp] theorem finish_settleCnt (st : Status) (payload : Payload) (s : State) : (finish st payload s).settleCnt = s.settleCnt := rfl
@[simp] theorem finish_stage (st : Status) (payload : Payload) (s : State) : (finish st payload s).stage = s.stage := rfl
@[simp] theorem finish_voices (st : Status) (payload : Payload) (s : State) : (finish st payload s).voices = s.voices := rfl
@[simp] theorem finish_queue (st : Status) (payload : Payload) (s : State) : (finish st payload s).queue = s.queue := rfl
@[simp] theorem finish_notes (st : Status) (payload : Payload) (s : State) : (finish st payload s).notes = s.notes := rfl
@[simp] theorem finish_out (st : Status) (payload : Payload) (s : State) : (finish st payload s).out = s.out := rfl
@[simp] theorem finish_params (st : Status) (payload : Payload) (s : State) : (finish st payload s).params = s.params := rfl
@[simp] theorem finish_program (st : Status) (payload : Payload) (s : State) : (finish st payload s).program = s.program := rfl
@[simp] theorem finish_resetReq (st : Status) (payload : Payload) (s : State) : (finish st payload s).resetReq = s.resetReq := rfl

@[simp] theorem readVoice_setBaseNote (s : State) (v : Midi7) (k : VoiceIdx) : readVoice (s.setBaseNote v) k = readVoice s k := rfl
@[simp] theorem readVoice_setPbRange (s : State) (v : Midi7) (k : VoiceIdx) : readVoice (s.setPbRange v) k = readVoice s k := rfl
@[simp] theorem readVoice_setFilled (s : State) (v : Bool) (k : VoiceIdx) : readVoice (s.setFilled v) k = readVoice s k := rfl
@[simp] theorem readVoice_setNumTaken (s : State) (v : BitVec 4) (k : VoiceIdx) : readVoice (s.setNumTaken v) k = readVoice s k := rfl
@[simp] theorem readVoice_setSettleCnt (s : State) (v : BitVec 16) (k : VoiceIdx) : readVoice (s.setSettleCnt v) k = readVoice s k := rfl
@[simp] theorem readVoice_setStickyErr (s : State) (v : Bool) (k : VoiceIdx) : readVoice (s.setStickyErr v) k = readVoice s k := rfl
@[simp] theorem readVoice_setStage (s : State) (v : List Channel) (k : VoiceIdx) : readVoice (s.setStage v) k = readVoice s k := rfl
@[simp] theorem readVoice_setQueue (s : State) (v : List VoiceIdx) (k : VoiceIdx) : readVoice (s.setQueue v) k = readVoice s k := rfl
@[simp] theorem readVoice_setNotes (s : State) (v : NoteCache) (k : VoiceIdx) : readVoice (s.setNotes v) k = readVoice s k := rfl
@[simp] theorem readVoice_setResp (s : State) (v : RespWord) (k : VoiceIdx) : readVoice (s.setResp v) k = readVoice s k := rfl
@[simp] theorem readVoice_setOut (s : State) (v : List (List Msg)) (k : VoiceIdx) : readVoice (s.setOut v) k = readVoice s k := rfl
@[simp] theorem readVoice_setCmdidx (s : State) (v : Nat) (k : VoiceIdx) : readVoice (s.setCmdidx v) k = readVoice s k := rfl
@[simp] theorem readVoice_setProgram (s : State) (v : List CmdWord) (k : VoiceIdx) : readVoice (s.setProgram v) k = readVoice s k := rfl
@[simp] theorem readVoice_setResetReq (s : State) (v : Bool) (k : VoiceIdx) : readVoice (s.setResetReq v) k = readVoice s k := rfl
@[simp] theorem readStage_setBaseNote (s : State) (v : Midi7) (k : VoiceIdx) : readStage (s.setBaseNote v) k = readStage s k := rfl
@[simp] theorem readStage_setPbRange (s : State) (v : Midi7) (k : VoiceIdx) : readStage (s.setPbRange v) k = readStage s k := rfl
@[simp] theorem readStage_setFilled (s : State) (v : Bool) (k : VoiceIdx) : readStage (s.setFilled v) k = readStage s k := rfl
@[simp] theorem readStage_setNumTaken (s : State) (v : BitVec 4) (k : VoiceIdx) : readStage (s.setNumTaken v) k = readStage s k := rfl
@[simp] theorem readStage_setSettleCnt (s : State) (v : BitVec 16) (k : VoiceIdx) : readStage (s.setSettleCnt v) k = readStage s k := rfl
@[simp] theorem readStage_setStickyErr (s : State) (v : Bool) (k : VoiceIdx) : readStage (s.setStickyErr v) k = readStage s k := rfl
@[simp] theorem readStage_setVoices (s : State) (v : List Voice) (k : VoiceIdx) : readStage (s.setVoices v) k = readStage s k := rfl
@[simp] theorem readStage_setQueue (s : State) (v : List VoiceIdx) (k : VoiceIdx) : readStage (s.setQueue v) k = readStage s k := rfl
@[simp] theorem readStage_setNotes (s : State) (v : NoteCache) (k : VoiceIdx) : readStage (s.setNotes v) k = readStage s k := rfl
@[simp] theorem readStage_setResp (s : State) (v : RespWord) (k : VoiceIdx) : readStage (s.setResp v) k = readStage s k := rfl
@[simp] theorem readStage_setOut (s : State) (v : List (List Msg)) (k : VoiceIdx) : readStage (s.setOut v) k = readStage s k := rfl
@[simp] theorem readStage_setCmdidx (s : State) (v : Nat) (k : VoiceIdx) : readStage (s.setCmdidx v) k = readStage s k := rfl
@[simp] theorem readStage_setProgram (s : State) (v : List CmdWord) (k : VoiceIdx) : readStage (s.setProgram v) k = readStage s k := rfl
@[simp] theorem readStage_setResetReq (s : State) (v : Bool) (k : VoiceIdx) : readStage (s.setResetReq v) k = readStage s k := rfl
@[simp] theorem readNote_setBaseNote (s : State) (v : Midi7) (r c : Coord) : readNote (s.setBaseNote v) r c = readNote s r c := rfl
@[simp] theorem readNote_setPbRange (s : State) (v : Midi7) (r c : Coord) : readNote (s.setPbRange v) r c = readNote s r c := rfl
@[simp] theorem readNote_setFilled (s : State) (v : Bool) (r c : Coord) : readNote (s.setFilled v) r c = readNote s r c := rfl
@[simp] theorem readNote_setNumTaken (s : State) (v : BitVec 4) (r c : Coord) : readNote (s.setNumTaken v) r c = readNote s r c := rfl
@[simp] theorem readNote_setSettleCnt (s : State) (v : BitVec 16) (r c : Coord) : readNote (s.setSettleCnt v) r c = readNote s r c := rfl
@[simp] theorem readNote_setStickyErr (s : State) (v : Bool) (r c : Coord) : readNote (s.setStickyErr v) r c = readNote s r c := rfl
@[simp] theorem readNote_setStage (s : State) (v : List Channel) (r c : Coord) : readNote (s.setStage v) r c = readNote s r c := rfl
@[simp] theorem readNote_setVoices (s : State) (v : List Voice) (r c : Coord) : readNote (s.setVoices v) r c = readNote s r c := rfl
@[simp] theorem readNote_setQueue (s : State) (v : List VoiceIdx) (r c : Coord) : readNote (s.setQueue v) r c = readNote s r c := rfl
@[simp] theorem readNote_setResp (s : State) (v : RespWord) (r c : Coord) : readNote (s.setResp v) r c = readNote s r c := rfl
@[simp] theorem readNote_setOut (s : State) (v : List (List Msg)) (r c : Coord) : readNote (s.setOut v) r c = readNote s r c := rfl
@[simp] theorem readNote_setCmdidx (s : State) (v : Nat) (r c : Coord) : readNote (s.setCmdidx v) r c = readNote s r c := rfl
@[simp] theorem readNote_setProgram (s : State) (v : List CmdWord) (r c : Coord) : readNote (s.setProgram v) r c = readNote s r c := rfl
@[simp] theorem readNote_setResetReq (s : State) (v : Bool) (r c : Coord) : readNote (s.setResetReq v) r c = readNote s r c := rfl
@[simp] theorem readVoice_finish (st : Status) (payload : Payload) (s : State) (k : VoiceIdx) :
    readVoice (finish st payload s) k = readVoice s k := rfl
@[simp] theorem readStage_finish (st : Status) (payload : Payload) (s : State) (k : VoiceIdx) :
    readStage (finish st payload s) k = readStage s k := rfl
@[simp] theorem readNote_finish (st : Status) (payload : Payload) (s : State) (r c : Coord) :
    readNote (finish st payload s) r c = readNote s r c := rfl

/-- The four answers are next states: the end of the command with its status. -/
theorem answerOk_eq (payload : Payload) (s : State) : answerOk payload s = .next (finish .ok payload s) := rfl
theorem answerAbsent_eq (s : State) : answerAbsent s = .next (finish .absent 0 s) := rfl
theorem raisePrecond_eq (s : State) : raisePrecond s = .next (finish .precond 0 s) := rfl
theorem raiseIllegal_eq (s : State) : raiseIllegal s = .next (finish .illegal 0 s) := rfl

@[simp] theorem stickyAfter_ok (b : Bool) : stickyAfter .ok b = b := rfl
@[simp] theorem stickyAfter_absent (b : Bool) : stickyAfter .absent b = b := rfl
@[simp] theorem stickyAfter_precond (b : Bool) : stickyAfter .precond b = true := rfl
@[simp] theorem stickyAfter_illegal (b : Bool) : stickyAfter .illegal b = true := rfl

/-- A response with an empty payload is its status alone (R98). -/
theorem respWord_ok_zero : respWord .ok 0 = 0 := rfl
theorem respWord_absent : respWord .absent 0 = 0x4000000000000000 := rfl
theorem respWord_precond : respWord .precond 0 = 0x8000000000000000 := rfl
theorem respWord_illegal : respWord .illegal 0 = 0xC000000000000000 := rfl

@[simp] theorem respStatus_respWord (st : Status) (payload : Payload) :
    respStatus (respWord st payload) = statusCode st := by
  unfold respStatus respWord
  apply BitVec.eq_of_getLsbD_eq
  intro i hi
  simp only [BitVec.getLsbD_extractLsb', BitVec.getLsbD_append]
  simp [hi]

@[simp] theorem respPayload_respWord (st : Status) (payload : Payload) :
    respPayload (respWord st payload) = if st = .ok then payload else 0 := by
  unfold respPayload respWord
  apply BitVec.eq_of_getLsbD_eq
  intro i hi
  simp only [BitVec.getLsbD_extractLsb', BitVec.getLsbD_append]
  simp [hi]

/-- The value of a concatenation; with it a payload's value is a sum of its fields, each at its place. -/
theorem toNat_append_eq {m n : Nat} (x : BitVec m) (y : BitVec n) : (x ++ y).toNat = x.toNat * 2 ^ n + y.toNat := by
  rw [BitVec.toNat_append, ← Nat.shiftLeft_add_eq_or_of_lt y.isLt, Nat.shiftLeft_eq]

/-- The response of a command that ends OK, as a number: its payload. -/
theorem respWord_ok_toNat (payload : Payload) : (respWord .ok payload).toNat = payload.toNat := by
  change ((0#2 ++ payload : BitVec (2 + 62))).toNat = _
  rw [toNat_append_eq]
  simp

/-! ### The index spaces -/

@[simp] theorem writeVoice_baseNote (s : State) (k : VoiceIdx) (v : Voice) : (writeVoice s k v).baseNote = s.baseNote := rfl
@[simp] theorem writeVoice_pbRange (s : State) (k : VoiceIdx) (v : Voice) : (writeVoice s k v).pbRange = s.pbRange := rfl
@[simp] theorem writeVoice_zone (s : State) (k : VoiceIdx) (v : Voice) : (writeVoice s k v).zone = s.zone := rfl
@[simp] theorem writeVoice_numChannels (s : State) (k : VoiceIdx) (v : Voice) : (writeVoice s k v).numChannels = s.numChannels := rfl
@[simp] theorem writeVoice_filled (s : State) (k : VoiceIdx) (v : Voice) : (writeVoice s k v).filled = s.filled := rfl
@[simp] theorem writeVoice_numTaken (s : State) (k : VoiceIdx) (v : Voice) : (writeVoice s k v).numTaken = s.numTaken := rfl
@[simp] theorem writeVoice_settleCnt (s : State) (k : VoiceIdx) (v : Voice) : (writeVoice s k v).settleCnt = s.settleCnt := rfl
@[simp] theorem writeVoice_stickyErr (s : State) (k : VoiceIdx) (v : Voice) : (writeVoice s k v).stickyErr = s.stickyErr := rfl
@[simp] theorem writeVoice_stage (s : State) (k : VoiceIdx) (v : Voice) : (writeVoice s k v).stage = s.stage := rfl
@[simp] theorem writeVoice_queue (s : State) (k : VoiceIdx) (v : Voice) : (writeVoice s k v).queue = s.queue := rfl
@[simp] theorem writeVoice_notes (s : State) (k : VoiceIdx) (v : Voice) : (writeVoice s k v).notes = s.notes := rfl
@[simp] theorem writeVoice_resp (s : State) (k : VoiceIdx) (v : Voice) : (writeVoice s k v).resp = s.resp := rfl
@[simp] theorem writeVoice_out (s : State) (k : VoiceIdx) (v : Voice) : (writeVoice s k v).out = s.out := rfl
@[simp] theorem writeVoice_cmdidx (s : State) (k : VoiceIdx) (v : Voice) : (writeVoice s k v).cmdidx = s.cmdidx := rfl
@[simp] theorem writeVoice_params (s : State) (k : VoiceIdx) (v : Voice) : (writeVoice s k v).params = s.params := rfl
@[simp] theorem writeVoice_program (s : State) (k : VoiceIdx) (v : Voice) : (writeVoice s k v).program = s.program := rfl
@[simp] theorem writeVoice_resetReq (s : State) (k : VoiceIdx) (v : Voice) : (writeVoice s k v).resetReq = s.resetReq := rfl
@[simp] theorem writeStage_baseNote (s : State) (k : VoiceIdx) (ch : Channel) : (writeStage s k ch).baseNote = s.baseNote := rfl
@[simp] theorem writeStage_pbRange (s : State) (k : VoiceIdx) (ch : Channel) : (writeStage s k ch).pbRange = s.pbRange := rfl
@[simp] theorem writeStage_zone (s : State) (k : VoiceIdx) (ch : Channel) : (writeStage s k ch).zone = s.zone := rfl
@[simp] theorem writeStage_numChannels (s : State) (k : VoiceIdx) (ch : Channel) : (writeStage s k ch).numChannels = s.numChannels := rfl
@[simp] theorem writeStage_filled (s : State) (k : VoiceIdx) (ch : Channel) : (writeStage s k ch).filled = s.filled := rfl
@[simp] theorem writeStage_numTaken (s : State) (k : VoiceIdx) (ch : Channel) : (writeStage s k ch).numTaken = s.numTaken := rfl
@[simp] theorem writeStage_settleCnt (s : State) (k : VoiceIdx) (ch : Channel) : (writeStage s k ch).settleCnt = s.settleCnt := rfl
@[simp] theorem writeStage_stickyErr (s : State) (k : VoiceIdx) (ch : Channel) : (writeStage s k ch).stickyErr = s.stickyErr := rfl
@[simp] theorem writeStage_voices (s : State) (k : VoiceIdx) (ch : Channel) : (writeStage s k ch).voices = s.voices := rfl
@[simp] theorem writeStage_queue (s : State) (k : VoiceIdx) (ch : Channel) : (writeStage s k ch).queue = s.queue := rfl
@[simp] theorem writeStage_notes (s : State) (k : VoiceIdx) (ch : Channel) : (writeStage s k ch).notes = s.notes := rfl
@[simp] theorem writeStage_resp (s : State) (k : VoiceIdx) (ch : Channel) : (writeStage s k ch).resp = s.resp := rfl
@[simp] theorem writeStage_out (s : State) (k : VoiceIdx) (ch : Channel) : (writeStage s k ch).out = s.out := rfl
@[simp] theorem writeStage_cmdidx (s : State) (k : VoiceIdx) (ch : Channel) : (writeStage s k ch).cmdidx = s.cmdidx := rfl
@[simp] theorem writeStage_params (s : State) (k : VoiceIdx) (ch : Channel) : (writeStage s k ch).params = s.params := rfl
@[simp] theorem writeStage_program (s : State) (k : VoiceIdx) (ch : Channel) : (writeStage s k ch).program = s.program := rfl
@[simp] theorem writeStage_resetReq (s : State) (k : VoiceIdx) (ch : Channel) : (writeStage s k ch).resetReq = s.resetReq := rfl
@[simp] theorem updateNotes_baseNote (s : State) : (updateNotes s).baseNote = s.baseNote := rfl
@[simp] theorem updateNotes_pbRange (s : State) : (updateNotes s).pbRange = s.pbRange := rfl
@[simp] theorem updateNotes_zone (s : State) : (updateNotes s).zone = s.zone := rfl
@[simp] theorem updateNotes_numChannels (s : State) : (updateNotes s).numChannels = s.numChannels := rfl
@[simp] theorem updateNotes_filled (s : State) : (updateNotes s).filled = s.filled := rfl
@[simp] theorem updateNotes_numTaken (s : State) : (updateNotes s).numTaken = s.numTaken := rfl
@[simp] theorem updateNotes_settleCnt (s : State) : (updateNotes s).settleCnt = s.settleCnt := rfl
@[simp] theorem updateNotes_stickyErr (s : State) : (updateNotes s).stickyErr = s.stickyErr := rfl
@[simp] theorem updateNotes_stage (s : State) : (updateNotes s).stage = s.stage := rfl
@[simp] theorem updateNotes_voices (s : State) : (updateNotes s).voices = s.voices := rfl
@[simp] theorem updateNotes_queue (s : State) : (updateNotes s).queue = s.queue := rfl
@[simp] theorem updateNotes_resp (s : State) : (updateNotes s).resp = s.resp := rfl
@[simp] theorem updateNotes_out (s : State) : (updateNotes s).out = s.out := rfl
@[simp] theorem updateNotes_cmdidx (s : State) : (updateNotes s).cmdidx = s.cmdidx := rfl
@[simp] theorem updateNotes_params (s : State) : (updateNotes s).params = s.params := rfl
@[simp] theorem updateNotes_program (s : State) : (updateNotes s).program = s.program := rfl
@[simp] theorem updateNotes_resetReq (s : State) : (updateNotes s).resetReq = s.resetReq := rfl
@[simp] theorem updateNotes_notes (s : State) :
    (updateNotes s).notes = noteCache s.baseNote s.pbRange s.params.toneRom := rfl
@[simp] theorem readStage_writeVoice (s : State) (j k : VoiceIdx) (v : Voice) :
    readStage (writeVoice s k v) j = readStage s j := rfl
@[simp] theorem readVoice_writeStage (s : State) (j k : VoiceIdx) (ch : Channel) :
    readVoice (writeStage s k ch) j = readVoice s j := rfl
@[simp] theorem readVoice_updateNotes (s : State) (k : VoiceIdx) : readVoice (updateNotes s) k = readVoice s k := rfl
@[simp] theorem readStage_updateNotes (s : State) (k : VoiceIdx) : readStage (updateNotes s) k = readStage s k := rfl
@[simp] theorem readNote_writeVoice (s : State) (k : VoiceIdx) (v : Voice) (r c : Coord) :
    readNote (writeVoice s k v) r c = readNote s r c := rfl

theorem readVoice_writeVoice_same {s : State} {k : VoiceIdx} (v : Voice) (h : k.toNat < s.voices.length) :
    readVoice (writeVoice s k v) k = v := by
  simp [readVoice, writeVoice, List.getD_eq_getElem?_getD, h]

theorem readVoice_writeVoice_other {s : State} {j k : VoiceIdx} (v : Voice) (h : j ≠ k) :
    readVoice (writeVoice s k v) j = readVoice s j := by
  have hne : k.toNat ≠ j.toNat := fun e => h (BitVec.eq_of_toNat_eq e.symm)
  simp [readVoice, writeVoice, List.getD_eq_getElem?_getD, List.getElem?_set_ne hne]

/-- Reading any voice after a write: the written one where its index is in the file, otherwise as before. -/
theorem readVoice_writeVoice (s : State) (j k : VoiceIdx) (v : Voice) :
    readVoice (writeVoice s k v) j = if j = k ∧ k.toNat < s.voices.length then v else readVoice s j := by
  by_cases hj : j = k
  · subst hj
    by_cases hl : j.toNat < s.voices.length
    · simp [hl, readVoice_writeVoice_same v hl]
    · simp only [hl, and_false, if_false]
      simp [readVoice, writeVoice, List.getD_eq_getElem?_getD, List.set_eq_of_length_le (Nat.not_lt.mp hl)]
  · simp [hj, readVoice_writeVoice_other v hj]

theorem readStage_writeStage_same {s : State} {k : VoiceIdx} (ch : Channel) (h : k.toNat < s.stage.length) :
    readStage (writeStage s k ch) k = ch := by
  simp [readStage, writeStage, List.getD_eq_getElem?_getD, h]

theorem readStage_writeStage_other {s : State} {j k : VoiceIdx} (ch : Channel) (h : j ≠ k) :
    readStage (writeStage s k ch) j = readStage s j := by
  have hne : k.toNat ≠ j.toNat := fun e => h (BitVec.eq_of_toNat_eq e.symm)
  simp [readStage, writeStage, List.getD_eq_getElem?_getD, List.getElem?_set_ne hne]

@[simp] theorem writeVoice_voices_length (s : State) (k : VoiceIdx) (v : Voice) :
    (writeVoice s k v).voices.length = s.voices.length := by simp [writeVoice]
@[simp] theorem writeStage_stage_length (s : State) (k : VoiceIdx) (ch : Channel) :
    (writeStage s k ch).stage.length = s.stage.length := by simp [writeStage]

/-- A voice index past the file reads as an unassigned voice. -/
theorem readVoice_outside {s : State} {k : VoiceIdx} (h : s.voices.length ≤ k.toNat) : readVoice s k = Voice.reset := by
  simp [readVoice, List.getD_eq_getElem?_getD, List.getElem?_eq_none h]

/-- A cell of the note cache is the function of its own Tone ROM entry (R120). -/
@[simp] theorem noteCache_get (base range : Midi7) (rom : ToneRom) (a : Fin 64) :
    (noteCache base range rom)[a] = cellOf base range rom[a] := by
  simp [noteCache]

/-! ### The queue, TakeCore and ReleaseCore -/

theorem dequeue_eq_none {s : State} : dequeue s = none ↔ s.queue = [] := by
  unfold dequeue; split <;> simp_all

theorem dequeue_eq_some {s t : State} {k : VoiceIdx} :
    dequeue s = some (k, t) ↔ ∃ rest, s.queue = k :: rest ∧ t = s.setQueue rest := by
  unfold dequeue
  split
  · simp_all
  · rename_i k' rest h
    constructor
    · intro e
      simp only [Option.some.injEq, Prod.mk.injEq] at e
      obtain ⟨rfl, rfl⟩ := e
      exact ⟨rest, h, rfl⟩
    · rintro ⟨rest', h', rfl⟩
      rw [h] at h'
      obtain ⟨rfl, rfl⟩ := List.cons.inj h'
      rfl

/-- TakeCore finds nothing exactly when the queue is empty. -/
theorem takeCore_eq_none {row col : Coord} {s : State} : takeCore row col s = none ↔ s.queue = [] := by
  unfold takeCore
  rw [← dequeue_eq_none]
  split <;> simp_all

/-- All TakeCore can do where it finds a voice: the head of the queue leaves it, is stamped and counted. -/
theorem takeCore_eq_some {row col : Coord} {s t : State} {k : VoiceIdx} :
    takeCore row col s = some (k, t) ↔ ∃ rest, s.queue = k :: rest ∧
      t = ((writeVoice s k (takenVoice (readVoice s k) row col)).setQueue rest).setNumTaken (s.numTaken + 1) := by
  unfold takeCore
  constructor
  · intro h
    split at h
    · cases h
    · rename_i k' s₁ hd
      obtain ⟨rest, hq, rfl⟩ := dequeue_eq_some.mp hd
      simp only [Option.some.injEq, Prod.mk.injEq] at h
      obtain ⟨rfl, rfl⟩ := h
      exact ⟨rest, hq, rfl⟩
  · rintro ⟨rest, hq, rfl⟩
    rw [dequeue_eq_some.mpr ⟨rest, hq, rfl⟩]
    rfl

/-- An index of the pool is among the voice indices, and nothing else is, for a pool of at most 16. -/
theorem mem_voiceIndices {s : State} {k : VoiceIdx} (h : s.params.n ≤ 16) :
    k ∈ voiceIndices s ↔ k.toNat < s.params.n := by
  simp only [voiceIndices, List.mem_map, List.mem_range]
  constructor
  · rintro ⟨j, hj, rfl⟩
    rw [BitVec.toNat_ofNat, Nat.mod_eq_of_lt (by omega)]
    exact hj
  · intro hk
    exact ⟨k.toNat, hk, by simp⟩

/-- ReleaseCore finds nothing exactly when no voice index is held at these coordinates. -/
theorem releaseCore_eq_none {row col : Coord} {s : State} :
    releaseCore row col s = none ↔ ∀ k ∈ voiceIndices s, heldAt s row col k = false := by
  have : releaseCore row col s = none ↔ findHeld row col s = none := by
    unfold releaseCore; split <;> simp_all
  rw [this]
  simp [findHeld]

/-- All ReleaseCore can do where the scan finds a voice: it is freed, queued at the tail and no longer counted. -/
theorem releaseCore_eq_some {row col : Coord} {s t : State} {k : VoiceIdx} :
    releaseCore row col s = some (k, t) ↔ findHeld row col s = some k ∧
      t = ((writeVoice s k (releasedVoice (readVoice s k))).setQueue (s.queue ++ [k])).setNumTaken (s.numTaken - 1) := by
  unfold releaseCore
  constructor
  · intro h
    split at h
    · cases h
    · rename_i k' hf
      simp only [Option.some.injEq, Prod.mk.injEq] at h
      obtain ⟨rfl, rfl⟩ := h
      exact ⟨hf, rfl⟩
  · rintro ⟨hf, rfl⟩
    rw [hf]
    rfl

/-- The scan of ReleaseCore finds the lowest index held at the coordinates. -/
theorem findHeld_eq_some {row col : Coord} {s : State} {k : VoiceIdx} (h : s.params.n ≤ 16) :
    findHeld row col s = some k ↔ k.toNat < s.params.n ∧ heldAt s row col k = true ∧
      ∀ j : VoiceIdx, j.toNat < k.toNat → heldAt s row col j = false := by
  unfold findHeld voiceIndices
  rw [List.find?_map, Option.map_eq_some_iff]
  constructor
  · rintro ⟨a, ha, rfl⟩
    rw [List.find?_range_eq_some] at ha
    obtain ⟨h1, h2, h3⟩ := ha
    rw [List.mem_range] at h2
    have ea : (BitVec.ofNat 4 a).toNat = a := by rw [BitVec.toNat_ofNat]; exact Nat.mod_eq_of_lt (by omega)
    refine ⟨by omega, h1, fun j hj => ?_⟩
    have := h3 j.toNat (by omega)
    simpa using this
  · rintro ⟨h1, h2, h3⟩
    refine ⟨k.toNat, ?_, by simp⟩
    rw [List.find?_range_eq_some]
    refine ⟨by simpa using h2, by simpa using h1, fun j hj => ?_⟩
    have hj16 : j < 16 := by have := k.isLt; omega
    have := h3 (BitVec.ofNat 4 j) (by rw [BitVec.toNat_ofNat, Nat.mod_eq_of_lt (by omega)]; exact hj)
    simpa using this

/-! ### Emit -/

/-- Emitting messages in turn puts the whole list at the end of every sink's log (R185, R186). -/
theorem emitAll_eq (ms : List Msg) (s : State) : emitAll ms s = s.setOut (s.out.map (fun log => log ++ ms)) := by
  induction ms generalizing s with
  | nil => simp [emitAll, State.setOut_self]
  | cons m ms ih =>
    have : emitAll (m :: ms) s = emitAll ms (emit s m) := rfl
    rw [this, ih]
    simp [emit, State.setOut_twice, Function.comp_def, List.append_assoc]

/-! ### FILL's loop -/

/-- All one turn of FILL's loop can do. -/
theorem assignVoice_eq (s : State) (k : VoiceIdx) :
    assignVoice s k = (writeVoice s k { readVoice s k with channel := readStage s k }).setQueue
      (s.queue ++ [k].filter (fun j => readStage s j != 0)) := by
  unfold assignVoice
  by_cases h : readStage s k = 0
  · have hf : [k].filter (fun j => readStage s j != 0) = [] := by simp [List.filter, h]
    simp only [if_pos h, hf, List.append_nil]
    rfl
  · have hf : [k].filter (fun j => readStage s j != 0) = [k] := by
      have : (readStage s k != 0) = true := by simpa using h
      simp only [List.filter, this]
    simp only [if_neg h, hf]
    rfl

/-- The loop over the first `m` indices: it writes voices and queues those with a nonzero staged channel, in order, and each
voice is as before or has its staged channel. -/
theorem assignVoice_foldl (s : State) (m : Nat) : ∃ vs : List Voice,
    ((List.range m).map (BitVec.ofNat 4)).foldl assignVoice s = (s.setVoices vs).setQueue
      (s.queue ++ ((List.range m).map (BitVec.ofNat 4)).filter (fun k => readStage s k != 0)) ∧
    vs.length = s.voices.length ∧
    ∀ k : VoiceIdx, readVoice (s.setVoices vs) k = readVoice s k ∨
      readVoice (s.setVoices vs) k = { readVoice s k with channel := readStage s k } := by
  induction m with
  | zero => exact ⟨s.voices, by simp [State.setVoices_self, State.setQueue_self], rfl, fun k => .inl rfl⟩
  | succ m ih =>
    obtain ⟨vs, he, hl, hv⟩ := ih
    simp only [List.range_succ, List.map_append, List.map_cons, List.map_nil, List.foldl_append, List.foldl_cons,
      List.foldl_nil, List.filter_append, he, assignVoice_eq]
    refine ⟨(writeVoice (s.setVoices vs) (BitVec.ofNat 4 m) { readVoice (s.setVoices vs) (BitVec.ofNat 4 m) with
      channel := readStage s (BitVec.ofNat 4 m) }).voices, ?_, by simp [hl], ?_⟩
    · simp only [State.setQueue_queue, List.append_assoc]
      rfl
    · intro k
      change readVoice (writeVoice (s.setVoices vs) (BitVec.ofNat 4 m) _) k = _ ∨
        readVoice (writeVoice (s.setVoices vs) (BitVec.ofNat 4 m) _) k = _
      rw [readVoice_writeVoice]
      split
      · rename_i h
        obtain ⟨rfl, -⟩ := h
        rcases hv (BitVec.ofNat 4 m) with h | h <;> simp [h]
      · exact hv k

/-- Which voices the loop over the first `m` indices gives their staged channel, in a voice file of the pool's size. -/
theorem readVoice_assignVoice_foldl {s : State} {m : Nat} (hm : m ≤ s.voices.length) (h16 : m ≤ 16) (k : VoiceIdx) :
    readVoice (((List.range m).map (BitVec.ofNat 4)).foldl assignVoice s) k =
      if k.toNat < m then { readVoice s k with channel := readStage s k } else readVoice s k := by
  induction m with
  | zero => simp
  | succ m ih =>
    have ih := ih (by omega) (by omega)
    have em : (BitVec.ofNat 4 m).toNat = m := by rw [BitVec.toNat_ofNat]; exact Nat.mod_eq_of_lt (by omega)
    obtain ⟨vs, he, hl, -⟩ := assignVoice_foldl s m
    simp only [List.range_succ, List.map_append, List.map_cons, List.map_nil, List.foldl_append, List.foldl_cons,
      List.foldl_nil]
    rw [assignVoice_eq, readVoice_setQueue, readVoice_writeVoice]
    by_cases hk : k = BitVec.ofNat 4 m
    · subst hk
      have hlen : m < (((List.range m).map (BitVec.ofNat 4)).foldl assignVoice s).voices.length := by
        rw [he]; simp only [State.setQueue_voices, State.setVoices_voices, hl]; omega
      rw [if_pos ⟨rfl, by rw [em]; exact hlen⟩, if_pos (by omega), ih, if_neg (by omega), he]
      rfl
    · have hne : k.toNat ≠ m := fun e => hk (BitVec.eq_of_toNat_eq (by rw [em]; exact e))
      rw [if_neg (fun h => hk h.1), ih]
      by_cases hlt : k.toNat < m
      · rw [if_pos hlt, if_pos (by omega)]
      · rw [if_neg hlt, if_neg (by omega)]

/-- All FILL's loop can do (R153): voices change in their channel alone, and the queue grows at its tail, in ascending order. -/
theorem assignVoices_eq (len : BitVec 4) (s : State) : ∃ vs : List Voice,
    assignVoices len s = (s.setVoices vs).setQueue
      (s.queue ++ ((List.range len.toNat).map (BitVec.ofNat 4)).filter (fun k => readStage s k != 0)) ∧
    vs.length = s.voices.length ∧
    ∀ k : VoiceIdx, readVoice (s.setVoices vs) k = readVoice s k ∨
      readVoice (s.setVoices vs) k = { readVoice s k with channel := readStage s k } :=
  assignVoice_foldl s len.toNat

/-- The voices after FILL's loop, in a voice file of the pool's size. -/
theorem readVoice_assignVoices {s : State} {len : BitVec 4} (h : len.toNat ≤ s.voices.length) (k : VoiceIdx) :
    readVoice (assignVoices len s) k =
      if k.toNat < len.toNat then { readVoice s k with channel := readStage s k } else readVoice s k :=
  readVoice_assignVoice_foldl h (by omega) k

end Sys2Proof.Machine
end

