-- ==== Sys2Proof/Laws/Exec.lean ====
section
/-! SUPPORT. What the MIDI operations, the countdown, the payloads, each command and a step can do, each said once: the lemmas a
later proof cites instead of unfolding a meaning. -/

namespace Sys2Proof.Machine

/-! ### The MIDI operations and the countdown -/

/-- All InitMpeSeq can do (R197). -/
theorem initMpeSeq_eq (range : Midi7) (s : State) :
    initMpeSeq range s = s.setOut (s.out.map (fun log => log ++ initMpeMsgs s range)) := emitAll_eq _ s

/-- All SendNoteOn can do (R187). -/
theorem sendNoteOn_eq (k : VoiceIdx) (vel : Midi7) (s : State) :
    sendNoteOn k vel s = s.setOut (s.out.map (fun log => log ++
      [.pitchBend (readVoice s k).channel (readVoice s k).bend, .noteOn (readVoice s k).channel (readVoice s k).note vel])) :=
  emitAll_eq _ s

/-- All SendNoteOff can do (R188). -/
theorem sendNoteOff_eq (k : VoiceIdx) (vel : Midi7) (s : State) :
    sendNoteOff k vel s = s.setOut (s.out.map (fun log => log ++
      [.noteOff (readVoice s k).channel (readVoice s k).note vel])) := emitAll_eq _ s

/-- All the countdown of TICK can do (R223): nothing, one less, or the end of it with the initMpe sequence. -/
theorem tickSettle_eq (s : State) : tickSettle s =
    if s.settleCnt = 0 then s
    else if s.settleCnt = 1 then
      (s.setSettleCnt 0).setOut (s.out.map (fun log => log ++ initMpeMsgs s s.pbRange))
    else s.setSettleCnt (s.settleCnt - 1) := by
  have hs : s.settleCnt - 1 = 0 ↔ s.settleCnt = 1 := sub_eq_zero
  simp only [tickSettle, hs, initMpeSeq_eq]
  split
  · rfl
  · split
    · rename_i h
      rw [h, show (1 : BitVec 16) - 1 = 0 from by decide]
      rfl
    · rfl

/-! ### The payloads as numbers -/

/-- A voice payload, each field at its place in R99. -/
theorem voicePayload_toNat (s : State) (k : VoiceIdx) :
    (voicePayload s k).toNat = voiceResponseValue k (readVoice s k) := by
  unfold voicePayload voiceResponseValue flagBit
  simp only [toNat_append_eq]
  cases (readVoice s k).taken <;> simp <;> ring

/-- A note payload, each field at its place in R100. -/
theorem notePayload_toNat (n : Note) : (notePayload n).toNat = n.note.toNat * 2 ^ 39 + n.bend.toNat * 2 ^ 25 := by
  unfold notePayload
  simp only [toNat_append_eq]
  simp
  ring

/-- A tone payload, each field at its place in R101. -/
theorem tonePayload_toNat (t : Tone) :
    (tonePayload t).toNat = t.limit.toNat * 2 ^ 58 + t.offset.toNat * 2 ^ 54 + t.dev.toNat := by
  unfold tonePayload
  simp only [toNat_append_eq]
  simp
  ring

/-! ### What a command can do -/

/-- How a command `i` in the state `s` ends: its status, its payload, and the state its effects leave, before the response is
written. -/
inductive Effect (i : Instr) (s : State) : Status → Payload → State → Prop where
  | refused (st : Status) : st ≠ .ok → Effect i s st 0 s
  | kept (payload : Payload) : i = .nop ∨ (∃ row col, i = .getnote row col) ∨ (∃ row col, i = .romrd row col) ∨
      (∃ k, i = .getv k) ∨ i = .rdstat ∨ (i = .tick ∧ s.settleCnt = 0) → Effect i s .ok payload s
  | setbase (note : Midi7) : i = .setbase note → Effect i s .ok 0 (updateNotes (s.setBaseNote note))
  | setrange (range : Midi7) : i = .setrange range → range ≠ 0 → Effect i s .ok 0 (updateNotes (s.setPbRange range))
  | stage (k : VoiceIdx) (ch : Channel) : i = .stage k ch → k.toNat < s.params.n → ch.toNat ≤ 16 →
      Effect i s .ok 0 (writeStage s k ch)
  | fill (len : BitVec 4) : i = .fill len → s.filled = false → len.toNat ≤ s.params.n →
      Effect i s .ok 0 ((assignVoices len s).setFilled true)
  | take (row col : Coord) (k : VoiceIdx) (rest : List VoiceIdx) (t : State) : i = .take row col → s.queue = k :: rest →
      t = ((writeVoice s k (takenVoice (readVoice s k) row col)).setQueue rest).setNumTaken (s.numTaken + 1) →
      Effect i s .ok (voicePayload t k) t
  | relv (row col : Coord) (k : VoiceIdx) (t : State) : i = .relv row col → findHeld row col s = some k →
      t = ((writeVoice s k (releasedVoice (readVoice s k))).setQueue (s.queue ++ [k])).setNumTaken (s.numTaken - 1) →
      Effect i s .ok (voicePayload t k) t
  | press (row col : Coord) (vel : Midi7) (k : VoiceIdx) (rest : List VoiceIdx) (t : State) : i = .press row col vel →
      s.queue = k :: rest →
      t = loadNote k (readNote s row col)
        (((writeVoice s k (takenVoice (readVoice s k) row col)).setQueue rest).setNumTaken (s.numTaken + 1)) →
      Effect i s .ok (voicePayload t k) (t.setOut (s.out.map (fun log => log ++
        [.pitchBend (readVoice t k).channel (readVoice t k).bend,
         .noteOn (readVoice t k).channel (readVoice t k).note vel])))
  | unpress (row col : Coord) (k : VoiceIdx) (t : State) : i = .unpress row col → findHeld row col s = some k →
      t = ((writeVoice s k (releasedVoice (readVoice s k))).setQueue (s.queue ++ [k])).setNumTaken (s.numTaken - 1) →
      Effect i s .ok (voicePayload t k) (t.setOut (s.out.map (fun log => log ++
        [.noteOff (readVoice t k).channel (readVoice t k).note 0])))
  | zone (ms : List Msg) : (i = .mcm ∧ ms = mcmMsgs s.zone s.numChannels) ∨ (i = .mono ∧ ms = monoMsgs s.zone) ∨
      (i = .poly ∧ ms = polyMsgs s.zone) ∨
      (∃ range, i = .pbrz range ∧ ms = pbrMsgs s.params.pbrForm (masterChannel s.zone) range) ∨
      (∃ range, i = .initmpe range ∧ ms = initMpeMsgs s range) →
      Effect i s .ok 0 (s.setOut (s.out.map (fun log => log ++ ms)))
  | pbrv (k : VoiceIdx) (range : Midi7) : i = .pbrv k range → (readVoice s k).channel ≠ 0 →
      Effect i s .ok 0
        (s.setOut (s.out.map (fun log => log ++ pbrMsgs s.params.pbrForm (readVoice s k).channel range)))
  | connect : i = .connect → Effect i s .ok 0 (s.setSettleCnt s.params.settleTicks)
  | disconnect : i = .disconnect → Effect i s .ok 0 (s.setSettleCnt 0)
  | countdown : i = .tick → s.settleCnt ≠ 0 → s.settleCnt ≠ 1 → Effect i s .ok 0 (s.setSettleCnt (s.settleCnt - 1))
  | fire : i = .tick → s.settleCnt = 1 →
      Effect i s .ok 0 ((s.setSettleCnt 0).setOut (s.out.map (fun log => log ++ initMpeMsgs s s.pbRange)))

/-- Every command answers a next state, and this is all it can do. -/
theorem exec_effect (i : Instr) (s : State) : ∃ st payload u, exec i s = .next (finish st payload u) ∧ Effect i s st payload u := by
  cases i with
  | nop => exact ⟨_, _, _, rfl, .kept 0 (by simp)⟩
  | setbase note => exact ⟨_, _, _, rfl, .setbase note rfl⟩
  | setrange range =>
    simp only [exec, execSetrange]
    split
    · exact ⟨_, _, _, rfl, .setrange range rfl (by simpa [rangeLegal] using ‹rangeLegal range = true›)⟩
    · exact ⟨_, _, _, rfl, .refused _ (by simp)⟩
  | getnote row col => exact ⟨_, _, _, rfl, .kept _ (by simp)⟩
  | romrd row col => exact ⟨_, _, _, rfl, .kept _ (by simp)⟩
  | stage k ch =>
    simp only [exec, execStage]
    split
    · rename_i h
      simp only [indexLegal, channelLegal, Bool.and_eq_true, decide_eq_true_eq] at h
      exact ⟨_, _, _, rfl, .stage k ch rfl h.1 h.2⟩
    · exact ⟨_, _, _, rfl, .refused _ (by simp)⟩
  | fill len =>
    simp only [exec, execFill]
    split
    · exact ⟨_, _, _, rfl, .refused _ (by simp)⟩
    · split
      · exact ⟨_, _, _, rfl, .fill len rfl (by simp_all) (by simpa [lengthLegal] using ‹lengthLegal s.params.n len = true›)⟩
      · exact ⟨_, _, _, rfl, .refused _ (by simp)⟩
  | take row col =>
    simp only [exec, execTake]
    split
    · exact ⟨_, _, _, rfl, .refused _ (by simp)⟩
    · rename_i k t h
      obtain ⟨rest, hq, ht⟩ := takeCore_eq_some.mp h
      exact ⟨_, _, _, rfl, .take row col k rest t rfl hq ht⟩
  | relv row col =>
    simp only [exec, execRelv]
    split
    · exact ⟨_, _, _, rfl, .refused _ (by simp)⟩
    · rename_i k t h
      obtain ⟨hf, ht⟩ := releaseCore_eq_some.mp h
      exact ⟨_, _, _, rfl, .relv row col k t rfl hf ht⟩
  | getv k =>
    simp only [exec, execGetv]
    split
    · exact ⟨_, _, _, rfl, .kept _ (by simp)⟩
    · exact ⟨_, _, _, rfl, .refused _ (by simp)⟩
  | press row col vel =>
    simp only [exec, execPress]
    split
    · exact ⟨_, _, _, rfl, .refused _ (by simp)⟩
    · rename_i k t h
      obtain ⟨rest, hq, rfl⟩ := takeCore_eq_some.mp h
      rw [sendNoteOn_eq]
      exact ⟨_, _, _, rfl, .press row col vel k rest (loadNote k (readNote s row col) _) rfl hq rfl⟩
  | unpress row col =>
    simp only [exec, execUnpress]
    split
    · exact ⟨_, _, _, rfl, .refused _ (by simp)⟩
    · rename_i k t h
      obtain ⟨hf, ht⟩ := releaseCore_eq_some.mp h
      rw [sendNoteOff_eq, show t.out = s.out from by rw [ht]; rfl]
      exact ⟨_, _, _, rfl, .unpress row col k t rfl hf ht⟩
  | mcm =>
    simp only [exec, execMcm, emitAll_eq]
    exact ⟨_, _, _, rfl, .zone _ (.inl ⟨rfl, rfl⟩)⟩
  | mono =>
    simp only [exec, execMono, emitAll_eq]
    exact ⟨_, _, _, rfl, .zone _ (.inr (.inl ⟨rfl, rfl⟩))⟩
  | poly =>
    simp only [exec, execPoly, emitAll_eq]
    exact ⟨_, _, _, rfl, .zone _ (.inr (.inr (.inl ⟨rfl, rfl⟩)))⟩
  | pbrz range =>
    simp only [exec, execPbrz, emitAll_eq]
    split
    · exact ⟨_, _, _, rfl, .zone _ (.inr (.inr (.inr (.inl ⟨range, rfl, rfl⟩))))⟩
    · exact ⟨_, _, _, rfl, .refused _ (by simp)⟩
  | pbrv k range =>
    simp only [exec, execPbrv, emitAll_eq]
    split
    · split
      · exact ⟨_, _, _, rfl, .pbrv k range rfl (by simp_all)⟩
      · exact ⟨_, _, _, rfl, .refused _ (by simp)⟩
    · exact ⟨_, _, _, rfl, .refused _ (by simp)⟩
  | initmpe range =>
    simp only [exec, execInitmpe, initMpeSeq_eq]
    split
    · exact ⟨_, _, _, rfl, .zone _ (.inr (.inr (.inr (.inr ⟨range, rfl, rfl⟩))))⟩
    · exact ⟨_, _, _, rfl, .refused _ (by simp)⟩
  | connect => exact ⟨_, _, _, rfl, .connect rfl⟩
  | disconnect => exact ⟨_, _, _, rfl, .disconnect rfl⟩
  | tick =>
    simp only [exec, execTick, tickSettle_eq]
    split
    · exact ⟨_, _, _, rfl, .kept 0 (by simp_all)⟩
    · split
      · exact ⟨_, _, _, rfl, .fire rfl ‹_›⟩
      · exact ⟨_, _, _, rfl, .countdown rfl ‹_› ‹_›⟩
  | rdstat => exact ⟨_, _, _, rfl, .kept _ (by simp)⟩

/-- The state after a command is the one exec answers. -/
theorem after_eq {i : Instr} {s t : State} (h : exec i s = .next t) : after i s = t := by
  rw [after, h]
  rfl

/-- The same for `after`: all it can be. -/
theorem after_effect (i : Instr) (s : State) : ∃ st payload u, after i s = finish st payload u ∧ Effect i s st payload u := by
  obtain ⟨st, payload, u, h, e⟩ := exec_effect i s
  exact ⟨st, payload, u, after_eq h, e⟩

/-- A next state of a command is one of its effects, ended. -/
theorem exec_next {i : Instr} {s t : State} (h : exec i s = .next t) :
    ∃ st payload u, t = finish st payload u ∧ Effect i s st payload u := by
  obtain ⟨st, payload, u, h', e⟩ := exec_effect i s
  rw [h] at h'
  exact ⟨st, payload, u, by simpa using h', e⟩

/-- All a step can do: the reset event, nothing where no command is issued, an ILLEGAL word, or a command. -/
theorem step_cases {s t : State} (h : step s = .next t) :
    (s.resetReq = true ∧ t = resetEvent s) ∨ (nextWord s = none ∧ t = s) ∨
    (∃ w e, nextWord s = some w ∧ decode w = .error e ∧ t = finish .illegal 0 s) ∨
    ∃ w i, nextWord s = some w ∧ decode w = .ok i ∧ exec i s = .next t := by
  unfold step at h
  split at h
  · exact .inl ⟨‹_›, by simpa using h.symm⟩
  · split at h
    · exact .inr (.inl ⟨‹_›, by simpa using h.symm⟩)
    · rename_i w hw
      split at h
      · rename_i i hd
        exact .inr (.inr (.inr ⟨w, i, hw, hd, h⟩))
      · rename_i e hd
        exact .inr (.inr (.inl ⟨w, e, hw, hd, by simpa [raiseIllegal] using h.symm⟩))

end Sys2Proof.Machine
end

