-- ==== Sys2Proof/Laws/Memory.lean ====
section
/-! SUPPORT. The index spaces keep their sizes (20_memory.md R60): every operation over the state keeps `Memory.wf`, and the
state after reset has it. -/

namespace Sys2Proof.Machine

/-- `Memory.wf` rests on the sizes and on the parameters alone. -/
theorem Memory.wf_congr {s t : State} (h : Memory.wf s) (hv : t.voices.length = s.voices.length)
    (hg : t.stage.length = s.stage.length) (ho : t.out.length = s.out.length) (hp : t.params = s.params) : Memory.wf t := by
  unfold Memory.wf
  rw [hv, hg, ho, hp]
  exact h

theorem Memory.wf_resetWith (p : Params) : Memory.wf (State.resetWith p) := by simp [Memory.wf, State.resetWith]

theorem Memory.wf_writeVoice {s : State} (h : Memory.wf s) (k : VoiceIdx) (v : Voice) : Memory.wf (writeVoice s k v) :=
  Memory.wf_congr h (by simp) (by simp) (by simp) (by simp)

theorem Memory.wf_writeStage {s : State} (h : Memory.wf s) (k : VoiceIdx) (ch : Channel) : Memory.wf (writeStage s k ch) :=
  Memory.wf_congr h (by simp) (by simp) (by simp) (by simp)

theorem Memory.wf_updateNotes {s : State} (h : Memory.wf s) : Memory.wf (updateNotes s) := h

theorem Memory.wf_setQueue {s : State} (h : Memory.wf s) (q : List VoiceIdx) : Memory.wf (s.setQueue q) := h

theorem Memory.wf_setNumTaken {s : State} (h : Memory.wf s) (c : BitVec 4) : Memory.wf (s.setNumTaken c) := h

theorem Memory.wf_finish {s : State} (h : Memory.wf s) (st : Status) (payload : Payload) :
    Memory.wf (finish st payload s) := h

theorem Memory.wf_loadNote {s : State} (h : Memory.wf s) (k : VoiceIdx) (n : Note) : Memory.wf (loadNote k n s) :=
  Memory.wf_writeVoice h k _

theorem Memory.wf_emitAll {s : State} (h : Memory.wf s) (ms : List Msg) : Memory.wf (emitAll ms s) :=
  Memory.wf_congr h (by simp [emitAll_eq]) (by simp [emitAll_eq]) (by simp [emitAll_eq]) (by simp [emitAll_eq])

theorem Memory.wf_takeCore {s t : State} {row col : Coord} {k : VoiceIdx} (h : Memory.wf s)
    (ht : takeCore row col s = some (k, t)) : Memory.wf t := by
  obtain ⟨rest, -, rfl⟩ := takeCore_eq_some.mp ht
  exact Memory.wf_setNumTaken (Memory.wf_setQueue (Memory.wf_writeVoice h _ _) _) _

theorem Memory.wf_releaseCore {s t : State} {row col : Coord} {k : VoiceIdx} (h : Memory.wf s)
    (ht : releaseCore row col s = some (k, t)) : Memory.wf t := by
  obtain ⟨-, rfl⟩ := releaseCore_eq_some.mp ht
  exact Memory.wf_setNumTaken (Memory.wf_setQueue (Memory.wf_writeVoice h _ _) _) _

theorem Memory.wf_assignVoices {s : State} (h : Memory.wf s) (len : BitVec 4) : Memory.wf (assignVoices len s) := by
  obtain ⟨vs, he, hl, -⟩ := assignVoices_eq len s
  rw [he]
  exact Memory.wf_congr h hl rfl rfl rfl

theorem Memory.wf_resetEvent (s : State) : Memory.wf (resetEvent s) :=
  Memory.wf_congr (Memory.wf_resetWith s.params) rfl rfl rfl rfl

theorem Memory.wf_reset : Memory.wf State.reset := Memory.wf_resetWith referenceParams

end Sys2Proof.Machine
end

