-- ==== Sys2Proof/Laws/PerInstr.lean ====
section
/-! SUPPORT. A law of every command, one lemma per constructor: its word lies in its own row of the opcode map (R93, R94). -/

namespace Sys2Proof

/-- A mask of R93, whole fields kept or dropped. -/
theorem packWord_mask {op op' : BitVec 6} {row row' col col' : Coord} {imm imm' : Midi7} {idx idx' : VoiceIdx}
    {ch ch' : Channel} {len len' : BitVec 4} {mask pattern : CmdWord}
    (hm : mask = packWord op' row' col' imm' idx' ch' len')
    (hp : pattern = packWord (op &&& op') (row &&& row') (col &&& col') (imm &&& imm') (idx &&& idx') (ch &&& ch')
      (len &&& len')) :
    packWord op row col imm idx ch len &&& mask = pattern := by
  rw [hm, hp, packWord_and]

/-- The word of `i` has the opcode of `i`, and matches that opcode's row of the map. -/
def Laws.EncodedWord.Statement (i : Instr) : Prop :=
  fieldOp (encode i) = opcodeOf i ∧
  ∃ r, opcodeTable[(opcodeOf i).toNat]? = some r ∧ encode i &&& r.mask = r.pattern

theorem Laws.EncodedWord.nop : Laws.EncodedWord.Statement .nop :=
  ⟨by simp [encode], _, rfl, packWord_mask (show _ = packWord (-1) (-1) (-1) (-1) (-1) (-1) (-1) from rfl) (by simp [opcodeOf, packWord])⟩

theorem Laws.EncodedWord.setbase (imm : Midi7) : Laws.EncodedWord.Statement (.setbase imm) :=
  ⟨by simp [encode], _, rfl, packWord_mask (show _ = packWord (-1) (-1) (-1) 0 (-1) (-1) (-1) from rfl) (by simp [opcodeOf, packWord])⟩

theorem Laws.EncodedWord.setrange (imm : Midi7) : Laws.EncodedWord.Statement (.setrange imm) :=
  ⟨by simp [encode], _, rfl, packWord_mask (show _ = packWord (-1) (-1) (-1) 0 (-1) (-1) (-1) from rfl) (by simp [opcodeOf, packWord])⟩

theorem Laws.EncodedWord.getnote (row : Coord) (col : Coord) : Laws.EncodedWord.Statement (.getnote row col) :=
  ⟨by simp [encode], _, rfl, packWord_mask (show _ = packWord (-1) 0 0 (-1) (-1) (-1) (-1) from rfl) (by simp [opcodeOf, packWord])⟩

theorem Laws.EncodedWord.romrd (row : Coord) (col : Coord) : Laws.EncodedWord.Statement (.romrd row col) :=
  ⟨by simp [encode], _, rfl, packWord_mask (show _ = packWord (-1) 0 0 (-1) (-1) (-1) (-1) from rfl) (by simp [opcodeOf, packWord])⟩

theorem Laws.EncodedWord.stage (idx : VoiceIdx) (ch : Channel) : Laws.EncodedWord.Statement (.stage idx ch) :=
  ⟨by simp [encode], _, rfl, packWord_mask (show _ = packWord (-1) (-1) (-1) (-1) 0 0 (-1) from rfl) (by simp [opcodeOf, packWord])⟩

theorem Laws.EncodedWord.fill (len : BitVec 4) : Laws.EncodedWord.Statement (.fill len) :=
  ⟨by simp [encode], _, rfl, packWord_mask (show _ = packWord (-1) (-1) (-1) (-1) (-1) (-1) 0 from rfl) (by simp [opcodeOf, packWord])⟩

theorem Laws.EncodedWord.take (row : Coord) (col : Coord) : Laws.EncodedWord.Statement (.take row col) :=
  ⟨by simp [encode], _, rfl, packWord_mask (show _ = packWord (-1) 0 0 (-1) (-1) (-1) (-1) from rfl) (by simp [opcodeOf, packWord])⟩

theorem Laws.EncodedWord.relv (row : Coord) (col : Coord) : Laws.EncodedWord.Statement (.relv row col) :=
  ⟨by simp [encode], _, rfl, packWord_mask (show _ = packWord (-1) 0 0 (-1) (-1) (-1) (-1) from rfl) (by simp [opcodeOf, packWord])⟩

theorem Laws.EncodedWord.getv (idx : VoiceIdx) : Laws.EncodedWord.Statement (.getv idx) :=
  ⟨by simp [encode], _, rfl, packWord_mask (show _ = packWord (-1) (-1) (-1) (-1) 0 (-1) (-1) from rfl) (by simp [opcodeOf, packWord])⟩

theorem Laws.EncodedWord.press (row : Coord) (col : Coord) (vel : Midi7) : Laws.EncodedWord.Statement (.press row col vel) :=
  ⟨by simp [encode], _, rfl, packWord_mask (show _ = packWord (-1) 0 0 0 (-1) (-1) (-1) from rfl) (by simp [opcodeOf, packWord])⟩

theorem Laws.EncodedWord.unpress (row : Coord) (col : Coord) : Laws.EncodedWord.Statement (.unpress row col) :=
  ⟨by simp [encode], _, rfl, packWord_mask (show _ = packWord (-1) 0 0 (-1) (-1) (-1) (-1) from rfl) (by simp [opcodeOf, packWord])⟩

theorem Laws.EncodedWord.mcm : Laws.EncodedWord.Statement .mcm :=
  ⟨by simp [encode], _, rfl, packWord_mask (show _ = packWord (-1) (-1) (-1) (-1) (-1) (-1) (-1) from rfl) (by simp [opcodeOf, packWord])⟩

theorem Laws.EncodedWord.mono : Laws.EncodedWord.Statement .mono :=
  ⟨by simp [encode], _, rfl, packWord_mask (show _ = packWord (-1) (-1) (-1) (-1) (-1) (-1) (-1) from rfl) (by simp [opcodeOf, packWord])⟩

theorem Laws.EncodedWord.poly : Laws.EncodedWord.Statement .poly :=
  ⟨by simp [encode], _, rfl, packWord_mask (show _ = packWord (-1) (-1) (-1) (-1) (-1) (-1) (-1) from rfl) (by simp [opcodeOf, packWord])⟩

theorem Laws.EncodedWord.pbrz (imm : Midi7) : Laws.EncodedWord.Statement (.pbrz imm) :=
  ⟨by simp [encode], _, rfl, packWord_mask (show _ = packWord (-1) (-1) (-1) 0 (-1) (-1) (-1) from rfl) (by simp [opcodeOf, packWord])⟩

theorem Laws.EncodedWord.pbrv (idx : VoiceIdx) (range : Midi7) : Laws.EncodedWord.Statement (.pbrv idx range) :=
  ⟨by simp [encode], _, rfl, packWord_mask (show _ = packWord (-1) (-1) (-1) 0 0 (-1) (-1) from rfl) (by simp [opcodeOf, packWord])⟩

theorem Laws.EncodedWord.initmpe (imm : Midi7) : Laws.EncodedWord.Statement (.initmpe imm) :=
  ⟨by simp [encode], _, rfl, packWord_mask (show _ = packWord (-1) (-1) (-1) 0 (-1) (-1) (-1) from rfl) (by simp [opcodeOf, packWord])⟩

theorem Laws.EncodedWord.connect : Laws.EncodedWord.Statement .connect :=
  ⟨by simp [encode], _, rfl, packWord_mask (show _ = packWord (-1) (-1) (-1) (-1) (-1) (-1) (-1) from rfl) (by simp [opcodeOf, packWord])⟩

theorem Laws.EncodedWord.disconnect : Laws.EncodedWord.Statement .disconnect :=
  ⟨by simp [encode], _, rfl, packWord_mask (show _ = packWord (-1) (-1) (-1) (-1) (-1) (-1) (-1) from rfl) (by simp [opcodeOf, packWord])⟩

theorem Laws.EncodedWord.tick : Laws.EncodedWord.Statement .tick :=
  ⟨by simp [encode], _, rfl, packWord_mask (show _ = packWord (-1) (-1) (-1) (-1) (-1) (-1) (-1) from rfl) (by simp [opcodeOf, packWord])⟩

theorem Laws.EncodedWord.rdstat : Laws.EncodedWord.Statement .rdstat :=
  ⟨by simp [encode], _, rfl, packWord_mask (show _ = packWord (-1) (-1) (-1) (-1) (-1) (-1) (-1) from rfl) (by simp [opcodeOf, packWord])⟩

end Sys2Proof
end

