-- ==== Sys2Proof/Tests/Slice0.lean ====
section
/-! SUPPORT. Tests, each a named theorem on fixed values: ill-formed terms refused, one word per command written out from the
encoding of 30_encoding.md, one or two steps per command with the expected value from 95_test_vectors.md, and for every
statement with hypotheses a state and operands that meet them together. -/

open Sys2Proof Sys2Proof.Machine

namespace Sys2Proof.Tests

/-! ### Well-formedness: an ill-formed term for each check (R10, R63, R105, R106) -/

/-- The reference Tone ROM with the entry at one address replaced. -/
def romWith (a : Fin 64) (t : Tone) : ToneRom := refRom.set a t

theorem test_params_wf : referenceParams.wf = true := by decide
theorem test_params_no_voice : Params.wf { referenceParams with n := 0 } = false := by decide
theorem test_params_fifteen_voices : Params.wf { referenceParams with n := 15 } = false := by decide
theorem test_params_no_sink : Params.wf { referenceParams with numSinks := 0 } = false := by decide
theorem test_params_range_zero : Params.wf { referenceParams with cfgPbRange := 0 } = false := by decide
theorem test_params_no_settle : Params.wf { referenceParams with settleTicks := 0 } = false := by decide
theorem test_rom_even_limit : ToneRom.wf (romWith 3 ⟨2, 5, 0⟩) = false := by decide
theorem test_rom_offset_twelve : ToneRom.wf (romWith 3 ⟨1, 12, 0⟩) = false := by decide
theorem test_rom_not_unison : ToneRom.wf (romWith 9 ⟨1, 0, 1⟩) = false := by decide
theorem test_rom_cell_01_low : ToneRom.wf (romWith 1 ⟨9, 2, 167772159⟩) = false := by decide
theorem test_rom_cell_02_high : ToneRom.wf (romWith 2 ⟨5, 3, 3707240448⟩) = false := by decide
theorem test_rom_cell_04_offset : ToneRom.wf (romWith 4 ⟨3, 6, 83966647⟩) = false := by decide

theorem test_line_wf : AsmLine.wf 6 (.cmd "PRESS" [7, 7, 127]) = true ∧ AsmLine.wf 6 (.cmd "SETRANGE" [0]) = true := by
  decide
theorem test_line_row_too_wide : AsmLine.wf 6 (.cmd "PRESS" [8, 7, 127]) = false := by decide
theorem test_line_imm_too_wide : AsmLine.wf 6 (.cmd "SETBASE" [128]) = false := by decide
theorem test_line_idx_too_wide : AsmLine.wf 6 (.cmd "GETV" [16]) = false := by decide
theorem test_line_ch_too_wide : AsmLine.wf 6 (.cmd "STAGE" [0, 32]) = false := by decide
theorem test_line_len_too_wide : AsmLine.wf 6 (.cmd "FILL" [16]) = false := by decide
theorem test_line_operand_missing : AsmLine.wf 6 (.cmd "PBRV" [1]) = false := by decide
theorem test_line_operand_too_many : AsmLine.wf 6 (.cmd "NOP" [0]) = false := by decide
theorem test_line_unknown_mnemonic : AsmLine.wf 6 (.cmd "BEND" []) = false := by decide
theorem test_fillv_too_long : AsmLine.wf 2 (.fillv [1, 2, 3]) = false := by decide
theorem test_fillv_too_wide : AsmLine.wf 6 (.fillv [32]) = false := by decide

/-! ### Decoding: a word of every command, its bits written from R91 and R93

The fields stand in the order OP ROW COL IMM IDX CH LEN. -/

theorem test_decode_nop : decode 0b000000_000_000_0000000_0000_00000_0000 = .ok .nop := by decide
theorem test_decode_setbase : decode 0b000001_000_000_0100100_0000_00000_0000 = .ok (.setbase 36) := by decide
theorem test_decode_setrange : decode 0b000010_000_000_0110000_0000_00000_0000 = .ok (.setrange 48) := by decide
theorem test_decode_getnote : decode 0b000011_000_010_0000000_0000_00000_0000 = .ok (.getnote 0 2) := by decide
theorem test_decode_romrd : decode 0b000100_010_111_0000000_0000_00000_0000 = .ok (.romrd 2 7) := by decide
theorem test_decode_stage : decode 0b000101_000_000_0000000_0001_00010_0000 = .ok (.stage 1 2) := by decide
theorem test_decode_fill : decode 0b000110_000_000_0000000_0000_00000_0010 = .ok (.fill 2) := by decide
theorem test_decode_take : decode 0b000111_001_010_0000000_0000_00000_0000 = .ok (.take 1 2) := by decide
theorem test_decode_relv : decode 0b001000_010_011_0000000_0000_00000_0000 = .ok (.relv 2 3) := by decide
theorem test_decode_getv : decode 0b001001_000_000_0000000_0110_00000_0000 = .ok (.getv 6) := by decide
theorem test_decode_press : decode 0b001010_001_010_1100100_0000_00000_0000 = .ok (.press 1 2 100) := by decide
theorem test_decode_unpress : decode 0b001011_000_100_0000000_0000_00000_0000 = .ok (.unpress 0 4) := by decide
theorem test_decode_mcm : decode 0b001100_000_000_0000000_0000_00000_0000 = .ok .mcm := by decide
theorem test_decode_mono : decode 0b001101_000_000_0000000_0000_00000_0000 = .ok .mono := by decide
theorem test_decode_poly : decode 0b001110_000_000_0000000_0000_00000_0000 = .ok .poly := by decide
theorem test_decode_pbrz : decode 0b001111_000_000_0110000_0000_00000_0000 = .ok (.pbrz 48) := by decide
theorem test_decode_pbrv : decode 0b010000_000_000_0110000_0011_00000_0000 = .ok (.pbrv 3 48) := by decide
theorem test_decode_initmpe : decode 0b010001_000_000_0000001_0000_00000_0000 = .ok (.initmpe 1) := by decide
theorem test_decode_connect : decode 0b010010_000_000_0000000_0000_00000_0000 = .ok .connect := by decide
theorem test_decode_disconnect : decode 0b010011_000_000_0000000_0000_00000_0000 = .ok .disconnect := by decide
theorem test_decode_tick : decode 0b010100_000_000_0000000_0000_00000_0000 = .ok .tick := by decide
theorem test_decode_rdstat : decode 0b010101_000_000_0000000_0000_00000_0000 = .ok .rdstat := by decide

/-- The ILLEGAL words of 95_test_vectors.md V-ENC. -/
theorem test_decode_reserved_bit :
    decode 0x00000001 = .error .reservedBitSet ∧ decode 0x0C000001 = .error .reservedBitSet ∧
    decode 0x0C002000 = .error .reservedBitSet ∧ decode 0x04048001 = .error .reservedBitSet ∧
    decode 0x28AC8200 = .error .reservedBitSet ∧ decode 0x14800220 = .error .reservedBitSet := by decide
theorem test_decode_unassigned :
    decode 0x58000000 = .error .unassignedOpcode ∧ decode 0xFC000000 = .error .unassignedOpcode ∧
    decode 0xFFFFFFFF = .error .unassignedOpcode := by decide
theorem test_decodeTableWord : decodeTableWord 32 0x28AC8000 = some (.press 1 2 100) ∧ decodeTableWord 32 0x58000000 = none := by
  decide

/-! ### States of the vectors -/

/-- Reset with the parameters of 95_test_vectors.md. -/
def start : State := State.resetWith referenceParams

/-- After `FILLV 2, 3` (V-MIDI): voice 0 on channel 2, voice 1 on channel 3. -/
def filled : State := runInstrs [.stage 0 2, .stage 1 3, .fill 2] start

/-- After `PRESS 0, 1, 100` and `PRESS 0, 2, 0` (V-MIDI rows 0 and 1). -/
def playing : State := runInstrs [.press 0 1 100, .press 0 2 0] filled

/-- The wire bytes of a log (R181). -/
def wire (log : List Msg) : List (List (BitVec 8)) := log.map msgBytes

/-! ### One command (the expected values are those of 95_test_vectors.md, the vector named before each) -/

/-- V-CTL row 0. -/
theorem test_nop : (after .nop start).resp = 0 ∧ (after .nop start).cmdidx = 1 := by decide
/-- W1 rows 4 to 6. -/
theorem test_setbase : (after (.getnote 0 1) (after (.setbase 36) start)).resp = 0x0000134280000000 := by decide
/-- PROG1 row 6: 120 + 9 saturates at 127. -/
theorem test_setbase_saturates :
    (runInstrs [.setrange 2, .setbase 120, .getnote 1 0] start).resp = 0x00003FDEBE000000 := by decide
/-- V-TUN rows 8 and 9, base 0. -/
theorem test_setrange : (runInstrs [.setbase 0, .setrange 127, .getnote 0 2] start).resp = 0x000001C06E000000 := by decide
/-- V-TUN rows 0 and 1. -/
theorem test_setrange_zero : (after (.setrange 0) start).resp = 0x8000000000000000 ∧
    (runInstrs [.setrange 0, .rdstat] start).resp = 0x00118023C0000000 := by decide
/-- W1 row 2. -/
theorem test_getnote : (after (.getnote 0 2) start).resp = 0x00000DF73C000000 := by decide
/-- V-TUN rows 14 and 15. -/
theorem test_romrd : (after (.romrd 7 0) start).resp = 0x3C4000001E083711 ∧
    (after (.romrd 3 5) start).resp = 0x34800000E4607B51 := by decide
/-- V-POOL rows 7, 1 and 2. -/
theorem test_stage : (after (.stage 0 16) start).stage = [16, 0, 0, 0, 0, 0] := by decide
theorem test_stage_refused : (after (.stage 6 1) start).resp = 0x8000000000000000 ∧
    (after (.stage 0 17) start).resp = 0x8000000000000000 ∧ (after (.stage 0 17) start).stage = start.stage := by decide
/-- V-POOL rows 7 to 11: channel 0 in the list queues no voice. -/
theorem test_fill : (runInstrs [.stage 0 16, .stage 2 3, .fill 3] start).queue = [0, 2] ∧
    (readVoice (runInstrs [.stage 0 16, .stage 2 3, .fill 3] start) 2).channel = 3 := by decide
/-- V-POOL rows 4 and 10. -/
theorem test_fill_refused : (after (.fill 7) start).resp = 0x8000000000000000 ∧
    (runInstrs [.fill 0, .fill 1] start).resp = 0x8000000000000000 := by decide
/-- V-POOL, duplicate coordinates, rows 4 and 5 (channels 2 and 3). -/
theorem test_take : (after (.take 3 3) filled).resp = 0x004DC04000000000 ∧
    (runInstrs [.take 3 3, .take 3 3] filled).resp = 0x046DC04000000000 := by decide
/-- V-POOL row 0. -/
theorem test_take_absent : (after (.take 0 0) start).resp = 0x4000000000000000 := by decide
/-- V-POOL, duplicate coordinates, rows 6 to 8. -/
theorem test_relv : (runInstrs [.take 3 3, .take 3 3, .relv 3 3] filled).resp = 0x004D804000000000 ∧
    (runInstrs [.take 3 3, .take 3 3, .relv 3 3, .relv 3 3] filled).queue = [0, 1] := by decide
theorem test_relv_absent : (after (.relv 3 3) filled).resp = 0x4000000000000000 := by decide
/-- V-POOL rows 6 and 14. -/
theorem test_getv : (after (.getv 0) start).resp = 0x0000004000000000 ∧
    (after (.getv 15) start).resp = 0x4000000000000000 := by decide
/-- V-MIDI row 0. -/
theorem test_press : (after (.press 0 1 100) filled).resp = 0x0040CD4280000000 ∧
    (after (.press 0 1 100) filled).out.map wire = [[[0xE1, 0x40, 0x42], [0x91, 0x1A, 0x64]],
      [[0xE1, 0x40, 0x42], [0x91, 0x1A, 0x64]]] := by decide
/-- V-MIDI row 2. -/
theorem test_press_absent : (after (.press 0 4 127) playing).resp = 0x4000000000000000 ∧
    (after (.press 0 4 127) playing).out = playing.out := by decide
/-- V-MIDI rows 3 and 4: the stored note, not the retuned one, is silenced. -/
theorem test_unpress : (runInstrs [.setbase 36, .unpress 0 1] playing).resp = 0x00408D4280000000 ∧
    (runInstrs [.setbase 36, .unpress 0 1] playing).out.map (fun log => (wire log).getLast?) =
      [some [0x81, 0x1A, 0x00], some [0x81, 0x1A, 0x00]] := by decide
theorem test_unpress_absent : (after (.unpress 7 7) playing).resp = 0x4000000000000000 := by decide
/-- V-MIDI, configuration commands, rows 0 to 3. -/
theorem test_mcm : (after .mcm filled).out.map wire = List.replicate 2 [[0xB0, 0x64, 0x06], [0xB0, 0x65, 0x00], [0xB0, 0x06, 0x0F]] := by
  decide
theorem test_mono : (after .mono filled).out.map wire = List.replicate 2 [[0xB0, 0x7E, 0x00]] := by decide
theorem test_poly : (after .poly filled).out.map wire = List.replicate 2 [[0xB0, 0x7F, 0x00]] := by decide
theorem test_pbrz : (after (.pbrz 48) filled).out.map wire = List.replicate 2 [[0xB0, 0x06, 0x30]] := by decide
/-- V-MIDI, configuration commands, rows 5 and 8 (PRECOND). -/
theorem test_pbrv : (after (.pbrv 0 48) filled).out.map wire = List.replicate 2 [[0xB1, 0x06, 0x30]] ∧
    (after (.pbrv 0 0) filled).resp = 0x8000000000000000 := by decide
/-- V-EXC row 3 (PRECOND before ABSENT) and V-MIDI, configuration commands, row 7. -/
theorem test_pbrv_priority : (after (.pbrv 15 0) start).resp = 0x8000000000000000 ∧
    (after (.pbrv 6 2) start).resp = 0x4000000000000000 := by decide
/-- W3. -/
theorem test_initmpe : (after (.initmpe 1) start).out.map wire = List.replicate 2
    [[0xB0, 0x64, 0x06], [0xB0, 0x65, 0x00], [0xB0, 0x06, 0x0F], [0xB0, 0x7F, 0x00], [0xB0, 0x06, 0x01]] := by decide
/-- V-MIDI with PBR_FORM = TRIPLET, row 2; and the Upper zone with NUM_CHANNELS = 7, row 5. -/
theorem test_initmpe_forms :
    (after (.initmpe 2) (State.resetWith { referenceParams with pbrForm := .triplet, numSinks := 1 })).out.map wire =
      [[[0xB0, 0x64, 0x06], [0xB0, 0x65, 0x00], [0xB0, 0x06, 0x0F], [0xB0, 0x7F, 0x00], [0xB0, 0x64, 0x00], [0xB0, 0x65, 0x00],
        [0xB0, 0x06, 0x02]]] ∧
    (after (.initmpe 2) (State.resetWith { referenceParams with cfgZone := .upper, cfgNumCh := 7, numSinks := 1 })).out.map wire =
      [[[0xBF, 0x64, 0x06], [0xBF, 0x65, 0x00], [0xBF, 0x06, 0x07], [0xBF, 0x7F, 0x00], [0xBF, 0x06, 0x02]]] := by decide
/-- V-CTL rows 2 and 3. -/
theorem test_connect : (runInstrs [.connect, .rdstat] start).resp = 0x00018023C000C000 := by decide
/-- V-CTL rows 13 to 17. -/
theorem test_disconnect : (runInstrs [.connect, .disconnect, .tick, .tick, .tick] start).out = [[], []] := by decide
/-- V-CTL rows 7 to 10: nothing at the second TICK, the sequence at the third. -/
theorem test_tick : (runInstrs [.connect, .tick, .tick] start).out = [[], []] ∧
    (runInstrs [.connect, .tick, .tick, .tick] start).out.map wire = List.replicate 2
      [[0xB0, 0x64, 0x06], [0xB0, 0x65, 0x00], [0xB0, 0x06, 0x0F], [0xB0, 0x7F, 0x00], [0xB0, 0x06, 0x01]] := by decide
/-- V-CTL, Upper zone with SETTLE_TICKS = 1, row 0. -/
theorem test_rdstat_upper : (after .rdstat (State.resetWith { referenceParams with
    n := 14, numSinks := 1, cfgBaseNote := 0, cfgPbRange := 127, cfgZone := .upper, cfgNumCh := 0, settleTicks := 1 })).resp =
      0x00080FE000000000 := by decide
/-- V-CTL row 1, and W2 row 4 after two voices are queued. -/
theorem test_rdstat : (after .rdstat start).resp = 0x00018023C0000000 ∧
    (runInstrs [.take 1 2, .rdstat] filled).resp = 0x04618023C0000000 := by decide
/-- V-EXC rows 5 and 6. -/
theorem test_illegal : (perform 0xFC000000 start).resp = 0xC000000000000000 ∧
    (after .rdstat (perform 0xFC000000 start)).resp = 0x00118023C0000000 := by decide

/-- V-TUN, the corner cases of the bend formula. -/
theorem test_bend_corners : cellBend 0xFFFFFFFF 1 = 16383 ∧ cellBend 0xFFFFFFFF 127 = 8256 ∧ cellBend 0x0007FFFF 1 = 8192 ∧
    cellBend 0x00080000 1 = 8193 ∧ cellBend 0x000FFFFF 2 = 8192 ∧ cellBend 0xDCF68E36 48 = 8339 := by decide
/-- V-MIDI, the pitch-bend byte split. -/
theorem test_bend_bytes : msgBytes (.pitchBend 1 8192) = [0xE0, 0x00, 0x40] ∧ msgBytes (.pitchBend 1 16383) = [0xE0, 0x7F, 0x7F] ∧
    msgBytes (.pitchBend 16 8193) = [0xEF, 0x01, 0x40] ∧ msgBytes (.pitchBend 2 15262) = [0xE1, 0x1E, 0x77] := by decide
/-- The 21-bit and 40-bit words of R66 and R61, on the reference cell (0,1). -/
theorem test_entry_words : noteBits ⟨26, 8512⟩ = 0x6A140 ∧ toneBits (readTone start 0 1) = 0x920A02756F := by decide

/-- Doubling the smaller of two odd identities until it is not below the other, then the other, leaves the ratio in [1, 2) (R64). -/
def octaveReduce (p q : Nat) : Nat × Nat :=
  let p₁ := [p, 2 * p, 4 * p, 8 * p, 16 * p].find? (fun x => decide (q ≤ x)) |>.getD p
  let q₁ := [q, 2 * q, 4 * q, 8 * q].find? (fun x => decide (p₁ < 2 * x)) |>.getD q
  (p₁, q₁)

/-- R64, exactly: an entry's limit, and its offset as the whole semitones of its ratio. -/
def refEntryOk (i j : Nat) (t : Tone) : Bool :=
  let q := identityOrder.getD i 0
  let p := identityOrder.getD j 0
  let r := octaveReduce p q
  decide (t.limit.toNat = max p q / Nat.gcd p q) && decide (2 ^ t.offset.toNat * r.2 ^ 12 ≤ r.1 ^ 12) &&
    decide (r.1 ^ 12 < 2 ^ (t.offset.toNat + 1) * r.2 ^ 12)

theorem test_ref_rom : ((List.range 64).all (fun a => (refRom.toList[a]?).any (refEntryOk (a / 8) (a % 8)))) = true := by decide

/-! ### The assembler (R105 to R107) -/

theorem test_asm_text : assembleText 6 "SETBASE 36 ; a comment\n\n PRESS 0x1,2 , 100".toList = some [0x04048000, 0x28AC8000] := by
  decide
theorem test_asm_fillv : assembleText 6 "FILLV 2, 3".toList = some [0x14000020, 0x14000230, 0x18000002] ∧
    assembleText 6 "FILLV".toList = some [0x18000000] := by decide
theorem test_asm_wait : assembleText 6 "WAIT 3".toList = some [0x50000000, 0x50000000, 0x50000000] ∧
    assembleText 6 "WAIT 0".toList = some [] := by decide
theorem test_asm_refused : assembleText 6 "PRESS 8, 0, 0".toList = none ∧ assembleText 6 "TICK 1".toList = none ∧
    assembleText 6 "SETRANGE 0".toList = some [0x08000000] := by decide

/-! ### A step -/

theorem test_step_runs : (stateOf start (step (start.withFetchWord 32 0x04048000))).baseNote = 36 ∧
    (stateOf start (step (playing.withFetchWord 32 0x04048000))).baseNote = 36 := by decide
/-- A step with reset asserted loads the reset values and keeps the host's index (R270, R271). -/
theorem test_step_reset : (stateOf start (step (playing.setResetReq true))).queue = [] ∧
    (stateOf start (step (playing.setResetReq true))).out = [[], []] ∧
    (stateOf start (step (playing.setResetReq true))).cmdidx = 5 := by decide

/-! ### Witnesses: for each statement with hypotheses, a state and operands that meet them together

Where a statement has clauses, each clause's own condition, at the ends of its range. -/

/-- The pool of 14 with channels 2 to 15, all Free (V-POOL, capacity). -/
def fullPool : State :=
  runInstrs (fillvInstrs [2, 3, 4, 5, 6, 7, 8, 9, 10, 11, 12, 13, 14, 15]) (State.resetWith { referenceParams with n := 14 })

/-- Two voices Taken at the same coordinates (V-POOL, duplicate coordinates, row 5). -/
def twice : State := runInstrs [.take 3 3, .take 3 3] filled

/-- The state of a pool of two with both voices Taken (W2 row 5). -/
def allocated : State := runInstrs [.take 1 2, .take 2 3] filled

theorem witness_decoded : decode 0x28AC8000 = .ok (.press 1 2 100) := by decide
theorem witness_row : opcodeTable[1]?.map (fun r => r.mask) = some 0xFFF01FFF ∧
    opcodeTable[1]?.map (fun r => r.pattern) = some 0x04000000 ∧ (0x04048000 : CmdWord) &&& 0xFFF01FFF = 0x04000000 := by decide
theorem witness_step : (start.withFetchWord 32 0x28AC8000).resetReq = false ∧
    nextWord (start.withFetchWord 32 0x28AC8000) = some 0x28AC8000 ∧ decode 0x28AC8000 = .ok (.press 1 2 100) := by decide
theorem witness_illegal : (playing.withFetchWord 32 0x04048001).resetReq = false ∧
    nextWord (playing.withFetchWord 32 0x04048001) = some 0x04048001 ∧ decode 0x04048001 = .error .reservedBitSet := by decide
theorem witness_idle : start.resetReq = false ∧ nextWord start = none := by decide
theorem witness_reset : (playing.setResetReq true).resetReq = true := by decide
theorem witness_range : (1 : Midi7) ≠ 0 ∧ (127 : Midi7) ≠ 0 := by decide
theorem witness_stage : Memory.wf start ∧ (5 : VoiceIdx).toNat < start.params.n ∧ (0 : VoiceIdx).toNat < start.params.n ∧
    (16 : Channel).toNat ≤ 16 ∧ (0 : Channel).toNat ≤ 16 := by decide
theorem witness_fill : Memory.wf start ∧ start.filled = false ∧ (0 : BitVec 4).toNat ≤ start.params.n ∧
    (6 : BitVec 4).toNat ≤ start.params.n := by decide
theorem witness_take : filled.queue = 0 :: [1] ∧ (0 : VoiceIdx).toNat < filled.voices.length := by decide
theorem witness_relv : twice.params.n ≤ 14 ∧ Memory.wf twice ∧ (0 : VoiceIdx).toNat < twice.params.n ∧
    heldAt twice 3 3 0 = true ∧ ∀ j : VoiceIdx, j.toNat < (0 : VoiceIdx).toNat → heldAt twice 3 3 j = false := by decide
theorem witness_relv_second : playing.params.n ≤ 14 ∧ Memory.wf playing ∧ (1 : VoiceIdx).toNat < playing.params.n ∧
    heldAt playing 0 2 1 = true ∧ ∀ j : VoiceIdx, j.toNat < (1 : VoiceIdx).toNat → heldAt playing 0 2 j = false := by decide
theorem witness_getv : (5 : VoiceIdx).toNat < start.params.n := by decide
theorem witness_master : (1 : Channel) = (if start.zone = .lower then 1 else 16) ∧
    (16 : Channel) = (if (State.resetWith { referenceParams with cfgZone := .upper }).zone = .lower then 1 else 16) := by decide
theorem witness_pbr_forms : filled.params.pbrForm = .single ∧
    (State.resetWith { referenceParams with pbrForm := .triplet }).params.pbrForm = .triplet := by decide
theorem witness_pbrv : (48 : Midi7) ≠ 0 ∧ (0 : VoiceIdx).toNat < filled.params.n ∧ (2 : Channel) = (readVoice filled 0).channel ∧
    (2 : Channel) ≠ 0 ∧ filled.params.pbrForm = .single := by decide
theorem witness_tick : start.settleCnt = 0 ∧ 1 < (after .connect start).settleCnt.toNat ∧
    (runInstrs [.connect, .tick, .tick] start).settleCnt = 1 ∧ (runInstrs [.connect, .tick, .tick] start).pbRange ≠ 0 := by decide
theorem witness_rdstat : start.queue.length ≤ 14 ∧ fullPool.queue.length = 14 := by decide
theorem witness_init_fires : (∀ i ∈ [Instr.tick, .press 0 0 1, .tick], i ≠ .connect ∧ i ≠ .disconnect) ∧
    filled.params.settleTicks ≠ 0 := by decide
theorem witness_refused : respStatus (perform 0xFC000000 start).resp ≠ 0 ∧ respStatus (perform 0x1C000000 start).resp = 1 := by
  decide
theorem witness_exec : ∃ t, exec (.press 0 1 100) filled = .next t := ⟨_, rfl⟩
/-- Each guarded clause of the statements about who writes what has a command that meets its guard. -/
theorem witness_writes : (after (.setbase 36) start).baseNote ≠ start.baseNote ∧
    (after (.setrange 2) start).pbRange ≠ start.pbRange ∧
    readNote (after (.setrange 2) start) 0 1 ≠ readNote start 0 1 ∧ (after (.fill 0) start).filled ≠ start.filled ∧
    (after (.take 0 0) filled).numTaken ≠ filled.numTaken ∧ (after (.take 0 0) filled).queue ≠ filled.queue ∧
    (after .connect start).settleCnt ≠ start.settleCnt ∧ (after (.stage 0 1) start).stage ≠ start.stage := by decide
theorem witness_voice_writes :
    (readVoice (after (.fill 1) (after (.stage 0 1) start)) 0).channel ≠ (readVoice (after (.stage 0 1) start) 0).channel ∧
    (readVoice (after (.press 0 1 9) filled) 0).note ≠ (readVoice filled 0).note ∧
    (readVoice (after (.take 0 1) filled) 0).col ≠ (readVoice filled 0).col ∧
    (readVoice (after (.unpress 0 1) playing) 0).taken ≠ (readVoice playing 0).taken := by decide

/-- Voice 0 Taken at (0,1) and sounding, voice 1 Free, `PRESS 0, 2, 0` the host's next command (V-MIDI row 1). -/
def ready : State := (after (.press 0 1 100) filled).withFetchWord 32 0x28200000

theorem witness_pool : PoolInv ready where
  sizes := by decide
  voicesAtMost14 := by decide
  queueFree := by decide
  takenAssigned := by decide
  numTaken := by decide
  unfilled := by decide

theorem witness_tuning : TuningInv ready where
  rangeNotZero := by decide
  cacheCurrent := rfl

theorem witness_control : ControlInv ready where
  zoneFixed := by decide
  numChannelsFixed := by decide
  settleAtMost := by decide

theorem witness_channel : ChannelInv ready where
  stage := by decide
  voice := by decide

theorem witness_log : LogInv ready where
  same := by decide
  legal := by decide
  bendFirst := by
    have h : ready.out = List.replicate 2 [.pitchBend 2 8512, .noteOn 2 26 100] := by decide
    rw [h]
    intro log hlog j ch note vel hj
    obtain rfl := List.eq_of_mem_replicate hlog
    match j, hj with
    | 1, hj =>
      simp only [List.getElem?_cons_succ, List.getElem?_cons_zero, Option.some.injEq, Msg.noteOn.injEq] at hj
      exact ⟨8512, by decide, by simp [hj.1]⟩

/-- All the premises of the statements about a step that keeps an invariant, at one state, and a step it takes. -/
theorem witness_invariants : ready.params.wf = true ∧ PoolInv ready ∧ TuningInv ready ∧ ControlInv ready ∧ ChannelInv ready ∧
    LogInv ready ∧ ∃ t, step ready = .next t :=
  ⟨by decide, witness_pool, witness_tuning, witness_control, witness_channel, witness_log, _, rfl⟩

theorem witness_reachable : referenceParams.wf = true ∧ Reachable referenceParams (State.resetWith referenceParams) :=
  ⟨by decide, .reset⟩

/-- The state a step leaves. -/
def stepped (s : State) : State := stateOf s (step s)

theorem reachable_stepped {p : Params} {s : State} (h : Reachable p s) : Reachable p (stepped s) := by
  unfold stepped
  cases hs : step s with
  | next t => exact .step h hs
  | fault r => exact h
  | refused r => exact h

/-- The host gives `FILLV 2, 3` and `PRESS 0, 1, 100` to the block in reset, and four steps perform them. -/
def pressed : State :=
  stepped (stepped (stepped (stepped (start.setProgram [0x14000020, 0x14000230, 0x18000002, 0x281C8000]))))

/-- A reachable state in which a voice is Taken, another is Free, and the logs hold a bend and a note (V-MIDI row 0). -/
theorem witness_reachable_playing : Reachable referenceParams pressed ∧ pressed.numTaken = 1 ∧ pressed.queue = [1] ∧
    pressed.out.map wire = List.replicate 2 [[0xE1, 0x40, 0x42], [0x91, 0x1A, 0x64]] :=
  ⟨reachable_stepped (reachable_stepped (reachable_stepped (reachable_stepped (.hostWrites _ .reset)))), by decide, by decide,
    by decide⟩

theorem witness_order : respStatus (after (.relv 1 2) allocated).resp = 0 ∧
    respStatus (after (.relv 2 3) (after (.relv 1 2) allocated)).resp = 0 ∧
    [((4 : Coord), (5 : Coord)), (6, 7)].length = allocated.queue.length + 2 := by decide
theorem witness_duplicates : Memory.wf twice ∧ twice.params.n ≤ 14 ∧ (0 : VoiceIdx).toNat < (1 : VoiceIdx).toNat ∧
    (1 : VoiceIdx).toNat < twice.params.n ∧ (∀ l : VoiceIdx, heldAt twice 3 3 l = true ↔ l = 0 ∨ l = 1) ∧
    (∀ i ∈ [Instr.relv 3 3, .unpress 3 3, .relv 3 3], i = .relv 3 3 ∨ i = .unpress 3 3) ∧ filled.queue ≠ [] := by decide
theorem witness_discipline : PoolInv ready ∧ coordinatesUnique ready ∧ allocatesFresh (.press 0 2 0) ready = true ∧
    ∃ t, exec (.press 0 2 0) ready = .next t := ⟨witness_pool, by decide, by decide, _, rfl⟩
theorem witness_ring : staysWithin 0 [] [] = true ∧ staysWithin 0 [] [.dequeue] = true ∧
    staysWithin 2 [] [.enqueue 1, .enqueue 0, .dequeue, .enqueue 1] = true := by decide
theorem witness_lines : AsmLine.wf 6 (.cmd "PRESS" [7, 7, 127]) = true ∧ AsmLine.wf 6 (.cmd "PRESS" [8, 7, 127]) = false := by
  decide
theorem witness_fillv : referenceParams.wf = true ∧ [16, 0, 1, 2, 3, 4].length ≤ referenceParams.n ∧
    ∀ c ∈ [16, 0, 1, 2, 3, 4], c ≤ 16 := by decide

end Sys2Proof.Tests
end

section
/-! SUPPORT. The step, branch by branch: what it answers on a legal and on an illegal word, and that it is `perform` of the next
word. -/

namespace Sys2Proof.Machine

/-! ### What a word does, legal or not -/

/-- No command stops the block (R248, R256): exec always answers the state `after` names. -/
theorem exec_eq_next_after (i : Instr) (s : State) : exec i s = .next (after i s) := by
  obtain ⟨st, payload, u, h, -⟩ := exec_effect i s
  rw [after_eq h, h]

theorem perform_of_decode_ok {w : CmdWord} {i : Instr} (hd : decode w = .ok i) (s : State) : perform w s = after i s := by
  rw [perform, hd]

theorem perform_of_decode_error {w : CmdWord} {e : Reject} (hd : decode w = .error e) (s : State) :
    perform w s = finish .illegal 0 s := by
  rw [perform, hd, raiseIllegal_eq, stateOf]

/-! ### The step with a word issued and no reset asserted -/

theorem step_of_decode_ok {s : State} {w : CmdWord} {i : Instr} (hr : s.resetReq = false) (hw : nextWord s = some w)
    (hd : decode w = .ok i) : step s = exec i s := by
  simp [step, hr, hw, hd]

theorem step_of_decode_error {s : State} {w : CmdWord} {e : Reject} (hr : s.resetReq = false) (hw : nextWord s = some w)
    (hd : decode w = .error e) : step s = .next (finish .illegal 0 s) := by
  simp [step, hr, hw, hd, raiseIllegal_eq]

/-- The step is total on issued words (R256), by the two cases of the decoder. -/
theorem step_eq_next_perform {s : State} {w : CmdWord} (hr : s.resetReq = false) (hw : nextWord s = some w) :
    step s = .next (perform w s) := by
  cases hd : decode w with
  | ok i => rw [step_of_decode_ok hr hw hd, perform_of_decode_ok hd, exec_eq_next_after]
  | error e => rw [step_of_decode_error hr hw hd, perform_of_decode_error hd]

/-- Settles O5: a legal word by the step's own branch for it, any word by the two cases of the decoder. -/
theorem stepRunsDecodedCommand : Obligations.StepRunsDecodedCommand := by
  unfold Obligations.StepRunsDecodedCommand
  exact ⟨fun _ _ _ hr hw hd => step_of_decode_ok hr hw hd, fun _ _ hr hw => step_eq_next_perform hr hw⟩

end Sys2Proof.Machine
end

section
/-! SUPPORT. The block's state (10_state.md): what no command writes, which commands write each register and each field of a
voice, and that every word advances `cmdidx` and answers. -/

namespace Sys2Proof.Machine

/-! ### What no command's effect touches -/

/-- What belongs to the parameters, to the host or to the end of a command (R21, R24, R25, R44): no effect touches it. -/
structure KeepsFixed (s u : State) : Prop where
  zone : u.zone = s.zone
  numChannels : u.numChannels = s.numChannels
  params : u.params = s.params
  program : u.program = s.program
  resetReq : u.resetReq = s.resetReq
  cmdidx : u.cmdidx = s.cmdidx
  stickyErr : u.stickyErr = s.stickyErr

section Effects
variable {i : Instr} {s u : State} {st : Status} {payload : Payload}

theorem Effect.keepsFixed (he : Effect i s st payload u) : KeepsFixed s u := by
  cases he with
  | fill len _ _ _ =>
    obtain ⟨vs, hfill, -, -⟩ := assignVoices_eq len s
    rw [hfill]
    exact ⟨rfl, rfl, rfl, rfl, rfl, rfl, rfl⟩
  | take _ _ _ _ _ _ _ ht => subst ht; exact ⟨rfl, rfl, rfl, rfl, rfl, rfl, rfl⟩
  | relv _ _ _ _ _ _ ht => subst ht; exact ⟨rfl, rfl, rfl, rfl, rfl, rfl, rfl⟩
  | press _ _ _ _ _ _ _ _ ht => subst ht; exact ⟨rfl, rfl, rfl, rfl, rfl, rfl, rfl⟩
  | unpress _ _ _ _ _ _ ht => subst ht; exact ⟨rfl, rfl, rfl, rfl, rfl, rfl, rfl⟩
  | _ => exact ⟨rfl, rfl, rfl, rfl, rfl, rfl, rfl⟩

/-! ### What a command can do to one voice -/

/-- How a command `i` in the state `s` leaves voice `j` (R32): as it was, or as the one command that reaches it makes it. -/
inductive VoiceEffect (i : Instr) (s : State) (j : VoiceIdx) : Voice → Prop where
  | kept : VoiceEffect i s j (readVoice s j)
  | filled (len : BitVec 4) : i = .fill len → VoiceEffect i s j { readVoice s j with channel := readStage s j }
  | taken (row col : Coord) (rest : List VoiceIdx) : i = .take row col → s.queue = j :: rest →
      VoiceEffect i s j (takenVoice (readVoice s j) row col)
  | pressed (row col : Coord) (vel : Midi7) (rest : List VoiceIdx) : i = .press row col vel → s.queue = j :: rest →
      VoiceEffect i s j { takenVoice (readVoice s j) row col with
        note := (readNote s row col).note, bend := (readNote s row col).bend }
  | released (row col : Coord) : i = .relv row col ∨ i = .unpress row col → findHeld row col s = some j →
      VoiceEffect i s j (releasedVoice (readVoice s j))

/-- Loading a note into a voice just written is writing the voice with that note. -/
theorem loadNote_writeVoice (s : State) (k : VoiceIdx) (v : Voice) (n : Note) :
    loadNote k n (writeVoice s k v) = writeVoice s k { v with note := n.note, bend := n.bend } := by
  by_cases hk : k.toNat < s.voices.length
  · rw [loadNote, readVoice_writeVoice_same v hk]
    simp [writeVoice, State.setVoices_twice]
  · simp [loadNote, writeVoice, List.set_eq_of_length_le (Nat.not_lt.mp hk), State.setVoices_twice]

/-- The same in the state an allocation leaves (R189): neither the queue nor the counter is in the way. -/
theorem loadNote_allocated (s : State) (k : VoiceIdx) (v : Voice) (n : Note) (q : List VoiceIdx) (c : BitVec 4) :
    loadNote k n (((writeVoice s k v).setQueue q).setNumTaken c) =
      ((writeVoice s k { v with note := n.note, bend := n.bend }).setQueue q).setNumTaken c :=
  congrArg (fun u => (u.setQueue q).setNumTaken c) (loadNote_writeVoice s k v n)

/-- Writing a voice leaves voice `j` as it was, or `j` is the one written. -/
theorem readVoice_writeVoice_cases (s : State) (j k : VoiceIdx) (v : Voice) :
    readVoice (writeVoice s k v) j = readVoice s j ∨ j = k ∧ readVoice (writeVoice s k v) j = v := by
  rw [readVoice_writeVoice]
  split
  · exact .inr ⟨And.left ‹_›, rfl⟩
  · exact .inl rfl

/-- All a command can do to any one voice. -/
theorem Effect.voiceEffect (he : Effect i s st payload u) (j : VoiceIdx) : VoiceEffect i s j (readVoice u j) := by
  cases he with
  | fill len hi _ _ =>
    obtain ⟨vs, hfill, -, hvoice⟩ := assignVoices_eq len s
    have hread : readVoice ((assignVoices len s).setFilled true) j = readVoice (s.setVoices vs) j := by rw [hfill]; rfl
    rw [hread]
    rcases hvoice j with h | h <;> rw [h]
    · exact .kept
    · exact .filled len hi
  | take row col k rest t hi hq ht =>
    subst ht
    simp only [readVoice_setNumTaken, readVoice_setQueue]
    rcases readVoice_writeVoice_cases s j k (takenVoice (readVoice s k) row col) with h | ⟨rfl, h⟩ <;> rw [h]
    · exact .kept
    · exact .taken row col rest hi hq
  | relv row col k t hi hf ht =>
    subst ht
    simp only [readVoice_setNumTaken, readVoice_setQueue]
    rcases readVoice_writeVoice_cases s j k (releasedVoice (readVoice s k)) with h | ⟨rfl, h⟩ <;> rw [h]
    · exact .kept
    · exact .released row col (.inl hi) hf
  | press row col vel k rest t hi hq ht =>
    rw [ht, loadNote_allocated]
    simp only [readVoice_setOut, readVoice_setNumTaken, readVoice_setQueue]
    rcases readVoice_writeVoice_cases s j k { takenVoice (readVoice s k) row col with
      note := (readNote s row col).note, bend := (readNote s row col).bend } with h | ⟨rfl, h⟩ <;> rw [h]
    · exact .kept
    · exact .pressed row col vel rest hi hq
  | unpress row col k t hi hf ht =>
    subst ht
    simp only [readVoice_setOut, readVoice_setNumTaken, readVoice_setQueue]
    rcases readVoice_writeVoice_cases s j k (releasedVoice (readVoice s k)) with h | ⟨rfl, h⟩ <;> rw [h]
    · exact .kept
    · exact .released row col (.inr hi) hf
  | _ => exact .kept

end Effects

/-! ### Every word -/

/-- A word ends as a command does: some state that kept `cmdidx` and the sticky bit, ended with some status. -/
theorem perform_eq_finish (w : CmdWord) (s : State) :
    ∃ st payload u, perform w s = finish st payload u ∧ u.cmdidx = s.cmdidx := by
  cases hd : decode w with
  | ok i =>
    obtain ⟨st, payload, u, h, he⟩ := after_effect i s
    exact ⟨st, payload, u, by rw [perform_of_decode_ok hd, h], he.keepsFixed.cmdidx⟩
  | error e => exact ⟨.illegal, 0, s, perform_of_decode_error hd s, rfl⟩

/-- Only OK carries a payload (R98, R104). -/
theorem respFormed_finish (st : Status) (payload : Payload) (s : State) : respFormed (finish st payload s) := by
  intro hst
  rw [finish_resp, respStatus_respWord] at hst
  rw [finish_resp, respPayload_respWord, if_neg (fun h => hst (by rw [h]))]

/-- Settles O34: every word ends with `finish`, which advances `cmdidx` and writes the response. -/
theorem everyWordAdvancesAndResponds : Obligations.EveryWordAdvancesAndResponds := by
  intro w s
  obtain ⟨st, payload, u, h, hidx⟩ := perform_eq_finish w s
  rw [h]
  exact ⟨by rw [finish_cmdidx, hidx], respFormed_finish st payload u⟩

/-! ### Who writes what -/

/-- Settles O35, by the effects a command can have: each changes the registers of its own command alone. -/
theorem onlyNamedCommandsWriteRegisters : Obligations.OnlyNamedCommandsWriteRegisters := by
  intro i s t h
  obtain ⟨st, payload, u, rfl, he⟩ := exec_next h
  cases he with
  | setbase note hi => simp [hi]
  | setrange range hi _ => simp [hi]
  | stage k ch hi _ _ => simp [hi]
  | fill len hi _ _ =>
    obtain ⟨vs, hfill, -, -⟩ := assignVoices_eq len s
    simp [hfill, hi]
  | take row col k rest t hi _ ht => simp [hi, ht]
  | relv row col k t hi _ ht => simp [hi, ht]
  | press row col vel k rest t hi _ ht => simp [hi, ht, loadNote]
  | unpress row col k t hi _ ht => simp [hi, ht]
  | connect hi => simp [hi]
  | disconnect hi => simp [hi]
  | countdown hi _ _ => simp [hi]
  | fire hi _ => simp [hi]
  | refused | kept | zone | pbrv => simp

/-- Settles O36, by what a command can do to one voice. -/
theorem onlyNamedCommandsWriteVoices : Obligations.OnlyNamedCommandsWriteVoices := by
  intro i s t k h
  obtain ⟨st, payload, u, rfl, he⟩ := exec_next h
  have hvoice := he.voiceEffect k
  rw [readVoice_finish]
  generalize readVoice u k = v at hvoice ⊢
  cases hvoice with
  | kept => simp
  | filled len hi => simp [hi]
  | taken row col rest hi _ => simp [hi, takenVoice]
  | pressed row col vel rest hi _ => simp [hi, takenVoice]
  | released row col hi _ => rcases hi with hi | hi <;> simp [hi, releasedVoice]

end Sys2Proof.Machine
end

section
/-! SUPPORT. The pool invariants (10_state.md R35, R36; 41_voice_pool.md R150): the reset state has them and every step keeps
them, allocation, release and FILL each by its own lemma. -/

namespace Sys2Proof.Machine

/-! ### Voice indices and counts -/

/-- The indices below a bound that four bits hold, as the scans and FILL's loop list them. -/
theorem mem_indices {m : Nat} (hm : m ≤ 16) (k : VoiceIdx) : k ∈ (List.range m).map (BitVec.ofNat 4) ↔ k.toNat < m := by
  rw [List.mem_map]
  constructor
  · rintro ⟨j, hj, rfl⟩
    rw [List.mem_range] at hj
    rwa [BitVec.toNat_ofNat, Nat.mod_eq_of_lt (by omega)]
  · exact fun hk => ⟨k.toNat, List.mem_range.mpr hk, by simp⟩

theorem nodup_indices {m : Nat} (hm : m ≤ 16) : ((List.range m).map (BitVec.ofNat 4)).Nodup := by
  refine List.Nodup.map_on (fun a ha b hb hab => ?_) List.nodup_range
  rw [List.mem_range] at ha hb
  have := congrArg BitVec.toNat hab
  rwa [BitVec.toNat_ofNat, BitVec.toNat_ofNat, Nat.mod_eq_of_lt (by omega), Nat.mod_eq_of_lt (by omega)] at this

/-- Where a test turns true at one element of a list without repetitions, one more element passes it. -/
theorem countP_of_turned_true {α : Type} [DecidableEq α] {l : List α} {p q : α → Bool} {a : α} (hl : l.Nodup) (ha : a ∈ l)
    (hp : p a = false) (hq : q a = true) (hsame : ∀ b, b ≠ a → q b = p b) : l.countP q = l.countP p + 1 := by
  have hperm := List.perm_cons_erase ha
  have hrest : (l.erase a).countP q = (l.erase a).countP p :=
    List.countP_congr fun b hb => by rw [hsame b (hl.mem_erase_iff.mp hb).1]
  rw [hperm.countP_eq q, hperm.countP_eq p, List.countP_cons_of_pos hq, List.countP_cons_of_neg (by simp [hp]), hrest]

/-- One voice more is Taken where one voice of the pool became Taken. -/
theorem takenCount_of_turned_taken {s t : State} {k : VoiceIdx} (hn : s.params.n ≤ 16) (hp : t.params = s.params)
    (hk : k.toNat < s.params.n) (hs : (readVoice s k).taken = false) (ht : (readVoice t k).taken = true)
    (hsame : ∀ j, j ≠ k → readVoice t j = readVoice s j) : takenCount t = takenCount s + 1 := by
  have hidx : voiceIndices t = voiceIndices s := by rw [voiceIndices, hp, voiceIndices]
  rw [takenCount, hidx, takenCount]
  exact countP_of_turned_true (nodup_indices hn) ((mem_voiceIndices hn).mpr hk) hs ht (fun j hj => by rw [hsame j hj])

theorem takenCount_congr {s t : State} (hp : t.params = s.params) (hsame : ∀ k, (readVoice t k).taken = (readVoice s k).taken) :
    takenCount t = takenCount s := by
  simp only [takenCount, voiceIndices, hp, hsame]

theorem takenCount_le (s : State) : takenCount s ≤ s.params.n := by
  simpa [takenCount, voiceIndices] using (List.countP_le_length (l := voiceIndices s) (p := fun k => (readVoice s k).taken))

theorem takenCount_eq_zero {s : State} (h : ∀ k, (readVoice s k).taken = false) : takenCount s = 0 := by
  simp [takenCount, h]

/-! ### What the pool invariants rest on -/

/-- The pool invariants rest on the voices, the queue, the counter, `FILLED` and the sizes alone. -/
theorem PoolInv.congr {s t : State} (h : PoolInv s) (hv : t.voices = s.voices) (hq : t.queue = s.queue)
    (hc : t.numTaken = s.numTaken) (hf : t.filled = s.filled) (hp : t.params = s.params)
    (hg : t.stage.length = s.stage.length) (ho : t.out.length = s.out.length) : PoolInv t := by
  have hr : ∀ k, readVoice t k = readVoice s k := fun k => by rw [readVoice, hv, readVoice]
  have hfree : ∀ k, isFree t k ↔ isFree s k := fun k => by rw [isFree, hp, hr, isFree]
  exact {
    sizes := Memory.wf_congr h.sizes (by rw [hv]) hg ho hp
    voicesAtMost14 := by rw [hp]; exact h.voicesAtMost14
    queueFree := ⟨fun k => by rw [hq, hfree]; exact h.queueFree.1 k, by rw [hq]; exact h.queueFree.2⟩
    takenAssigned := fun k => by rw [hr]; exact h.takenAssigned k
    numTaken := by rw [hc, h.numTaken, takenCount_congr hp (fun k => by rw [hr])]
    unfilled := fun hu k => by rw [hr]; exact h.unfilled (hf ▸ hu) k }

/-- A voice in the queue is a Free voice of the pool. -/
theorem PoolInv.free_of_mem_queue {s : State} (h : PoolInv s) {k : VoiceIdx} (hk : k ∈ s.queue) : isFree s k :=
  (h.queueFree.1 k).mp hk

/-- Before FILL the queue is empty. -/
theorem PoolInv.queue_of_unfilled {s : State} (h : PoolInv s) (hf : s.filled = false) : s.queue = [] :=
  List.eq_nil_iff_forall_not_mem.mpr fun k hk => (h.free_of_mem_queue hk).2.1 (h.unfilled hf k)

/-- Before FILL no voice is Taken. -/
theorem PoolInv.not_taken_of_unfilled {s : State} (h : PoolInv s) (hf : s.filled = false) (k : VoiceIdx) :
    (readVoice s k).taken = false :=
  Bool.eq_false_iff.mpr fun ht => h.takenAssigned k ht (h.unfilled hf k)

/-- The scan of ReleaseCore finds a Taken voice of the pool, and none of the queue. -/
theorem PoolInv.taken_of_findHeld {s : State} (h : PoolInv s) {row col : Coord} {k : VoiceIdx}
    (hf : findHeld row col s = some k) : isTaken s k ∧ k ∉ s.queue := by
  have h14 := h.voicesAtMost14
  obtain ⟨hk, hheld, -⟩ := (findHeld_eq_some (by omega)).mp hf
  have htaken : (readVoice s k).taken = true := by
    simp only [heldAt, Bool.and_eq_true] at hheld
    exact hheld.1.1
  refine ⟨⟨hk, htaken⟩, fun hmem => ?_⟩
  have hfree := (h.free_of_mem_queue hmem).2.2
  simp [htaken] at hfree

/-! ### Allocation, release and FILL -/

/-- A voice written with the channel it had keeps every voice's channel. -/
theorem channel_writeVoice {s : State} {k : VoiceIdx} {v : Voice} (hch : v.channel = (readVoice s k).channel) (j : VoiceIdx) :
    (readVoice (writeVoice s k v) j).channel = (readVoice s j).channel := by
  rcases readVoice_writeVoice_cases s j k v with hj | ⟨rfl, hj⟩ <;> rw [hj]
  exact hch

/-- Writing an assigned voice with the channel it had keeps the pool invariants where the new queue and the new counter are
those of the voices written. -/
theorem PoolInv.moveVoice {s : State} (h : PoolInv s) {k : VoiceIdx} {v : Voice} {q : List VoiceIdx} {c : BitVec 4}
    (hassigned : (readVoice s k).channel ≠ 0) (hch : v.channel = (readVoice s k).channel)
    (hq : ∀ j, j ∈ q ↔ isFree (writeVoice s k v) j) (hnodup : q.Nodup) (hc : c.toNat = takenCount (writeVoice s k v)) :
    PoolInv (((writeVoice s k v).setQueue q).setNumTaken c) where
  sizes := Memory.wf_setNumTaken (Memory.wf_setQueue (Memory.wf_writeVoice h.sizes k v) q) c
  voicesAtMost14 := h.voicesAtMost14
  queueFree := ⟨hq, hnodup⟩
  takenAssigned := fun j hj => by
    rw [readVoice_setNumTaken, readVoice_setQueue] at hj ⊢
    rw [channel_writeVoice hch]
    rcases readVoice_writeVoice_cases s j k v with hsame | ⟨rfl, -⟩
    · exact h.takenAssigned j (hsame ▸ hj)
    · exact hassigned
  numTaken := hc
  unfilled := fun hf j => by
    rw [readVoice_setNumTaken, readVoice_setQueue, channel_writeVoice hch]
    exact h.unfilled hf j

/-- Allocation keeps the pool invariants: the head of the queue becomes a Taken voice with the channel it had. -/
theorem PoolInv.allocate {s : State} (h : PoolInv s) {k : VoiceIdx} {rest : List VoiceIdx} {v : Voice} (hq : s.queue = k :: rest)
    (htaken : v.taken = true) (hch : v.channel = (readVoice s k).channel) :
    PoolInv (((writeVoice s k v).setQueue rest).setNumTaken (s.numTaken + 1)) := by
  have h14 := h.voicesAtMost14
  obtain ⟨hkn, hkch, hkfree⟩ := h.free_of_mem_queue (k := k) (by simp [hq])
  obtain ⟨hkrest, hrest⟩ := List.nodup_cons.mp (hq ▸ h.queueFree.2)
  have hsame : readVoice (writeVoice s k v) k = v := readVoice_writeVoice_same v (by rw [h.sizes.1]; exact hkn)
  have hother : ∀ j, j ≠ k → readVoice (writeVoice s k v) j = readVoice s j := fun j => readVoice_writeVoice_other v
  refine h.moveVoice hkch hch (fun j => ?_) hrest ?_
  · by_cases hj : j = k
    · subst hj
      simp [isFree, hsame, htaken, hkrest]
    · have hmem := h.queueFree.1 j
      rw [hq, List.mem_cons] at hmem
      simpa [isFree, hother j hj, hj] using hmem
  · have hcount : takenCount (writeVoice s k v) = takenCount s + 1 :=
      takenCount_of_turned_taken (by omega) rfl hkn hkfree (by rw [hsame, htaken]) hother
    have hle : takenCount (writeVoice s k v) ≤ s.params.n := takenCount_le _
    have hc := h.numTaken
    bv_omega

/-- Release keeps the pool invariants: a Taken voice becomes Free, with the channel it had, and goes to the tail of the queue. -/
theorem PoolInv.release {s : State} (h : PoolInv s) {k : VoiceIdx} {v : Voice} (hk : isTaken s k) (hnew : k ∉ s.queue)
    (hfree : v.taken = false) (hch : v.channel = (readVoice s k).channel) :
    PoolInv (((writeVoice s k v).setQueue (s.queue ++ [k])).setNumTaken (s.numTaken - 1)) := by
  have h14 := h.voicesAtMost14
  obtain ⟨hkn, hktaken⟩ := hk
  have hkch := h.takenAssigned k hktaken
  have hsame : readVoice (writeVoice s k v) k = v := readVoice_writeVoice_same v (by rw [h.sizes.1]; exact hkn)
  have hother : ∀ j, j ≠ k → readVoice (writeVoice s k v) j = readVoice s j := fun j => readVoice_writeVoice_other v
  refine h.moveVoice hkch hch (fun j => ?_) ?_ ?_
  · by_cases hj : j = k
    · subst hj
      simpa [isFree, hsame, hfree, hch, hkn] using hkch
    · simpa [isFree, hother j hj, hj] using h.queueFree.1 j
  · exact List.nodup_append_comm.mp (List.nodup_cons.mpr ⟨hnew, h.queueFree.2⟩)
  · have hcount : takenCount s = takenCount (writeVoice s k v) + 1 :=
      takenCount_of_turned_taken (s := writeVoice s k v) (k := k) (by rw [writeVoice_params]; omega) rfl hkn
        (by rw [hsame, hfree]) hktaken (fun j hj => (hother j hj).symm)
    have hle := takenCount_le s
    have hc := h.numTaken
    bv_omega

/-- FILL establishes the pool invariants of the pool it fills: before it the queue is empty and no voice is Taken. -/
theorem PoolInv.fill {s : State} (h : PoolInv s) {len : BitVec 4} (hf : s.filled = false) (hlen : len.toNat ≤ s.params.n) :
    PoolInv ((assignVoices len s).setFilled true) := by
  have h14 := h.voicesAtMost14
  have hread := readVoice_assignVoices (s := s) (len := len) (by rw [h.sizes.1]; exact hlen)
  obtain ⟨vs, hfill, hvs, -⟩ := assignVoices_eq len s
  have hparams : (assignVoices len s).params = s.params := by rw [hfill]; rfl
  have hqueue : (assignVoices len s).queue =
      ((List.range len.toNat).map (BitVec.ofNat 4)).filter (fun k => readStage s k != 0) := by
    rw [hfill, State.setQueue_queue, h.queue_of_unfilled hf, List.nil_append]
  have hcount : (assignVoices len s).numTaken = s.numTaken := by rw [hfill]; rfl
  have htaken : ∀ k, (readVoice (assignVoices len s) k).taken = false := fun k => by
    rw [hread]
    split <;> exact h.not_taken_of_unfilled hf k
  refine ⟨Memory.wf_congr (Memory.wf_assignVoices h.sizes len) rfl rfl rfl rfl, ?_, ⟨fun k => ?_, ?_⟩, fun k hk => ?_, ?_,
    fun hfilled => ?_⟩
  · change (assignVoices len s).params.n ≤ 14
    rw [hparams]
    exact h14
  · change k ∈ (assignVoices len s).queue ↔ k.toNat < (assignVoices len s).params.n ∧
      (readVoice (assignVoices len s) k).channel ≠ 0 ∧ (readVoice (assignVoices len s) k).taken = false
    rw [hqueue, List.mem_filter, mem_indices (by omega), hparams, htaken, hread]
    split
    · simp
      omega
    · simp [h.unfilled hf k]
      omega
  · change (assignVoices len s).queue.Nodup
    rw [hqueue]
    exact (nodup_indices (by omega)).filter _
  · exact absurd hk (by simp [htaken])
  · rw [takenCount_eq_zero (s := (assignVoices len s).setFilled true) htaken, State.setFilled_numTaken, hcount, h.numTaken,
      takenCount_eq_zero (h.not_taken_of_unfilled hf)]
  · exact absurd hfilled (by simp)

/-! ### Every step -/

/-- Every voice after reset, the indices outside the file among them (R271). -/
theorem readVoice_resetWith (p : Params) (k : VoiceIdx) : readVoice (State.resetWith p) k = Voice.reset := by
  rw [readVoice, State.resetWith_voices, List.getD_eq_getElem?_getD, List.getElem?_replicate]
  split <;> rfl

/-- The state after reset of a pool of at most 14 voices (R271). -/
theorem poolInv_resetWith {p : Params} (hn : p.n ≤ 14) : PoolInv (State.resetWith p) := by
  have hread := readVoice_resetWith p
  refine ⟨Memory.wf_resetWith p, hn, ⟨fun k => ?_, List.nodup_nil⟩, fun k hk => ?_, ?_, fun _ k => ?_⟩
  · simp [isFree, hread, Voice.reset]
  · simp [hread, Voice.reset] at hk
  · rw [takenCount_eq_zero (fun k => by rw [hread]; rfl)]
    rfl
  · rw [hread]
    rfl

/-- Every effect of a command keeps the pool invariants. -/
theorem Effect.poolInv {i : Instr} {s u : State} {st : Status} {payload : Payload} (he : Effect i s st payload u)
    (h : PoolInv s) : PoolInv u := by
  cases he with
  | fill len _ hf hlen => exact h.fill hf hlen
  | take row col k rest t _ hq ht => exact ht ▸ h.allocate hq rfl rfl
  | press row col vel k rest t _ hq ht =>
    rw [loadNote_allocated] at ht
    have hpool : PoolInv t := ht ▸ h.allocate hq rfl rfl
    exact hpool.congr rfl rfl rfl rfl rfl rfl (by simp [ht])
  | relv row col k t _ hf ht =>
    obtain ⟨hk, hnew⟩ := h.taken_of_findHeld hf
    exact ht ▸ h.release hk hnew rfl rfl
  | unpress row col k t _ hf ht =>
    obtain ⟨hk, hnew⟩ := h.taken_of_findHeld hf
    have hpool : PoolInv t := ht ▸ h.release hk hnew rfl rfl
    exact hpool.congr rfl rfl rfl rfl rfl rfl (by simp [ht])
  | _ => exact h.congr rfl rfl rfl rfl rfl (by simp) (by simp)

/-- The end of a command does not touch the pool. -/
theorem PoolInv.finish {s : State} (h : PoolInv s) (st : Status) (payload : Payload) : PoolInv (finish st payload s) :=
  h.congr rfl rfl rfl rfl rfl rfl rfl

/-- Settles O40, by what a step can do. -/
theorem stepKeepsPoolInvariant : Obligations.StepKeepsPoolInvariant := by
  intro s t h hstep
  rcases step_cases hstep with ⟨-, rfl⟩ | ⟨-, rfl⟩ | ⟨w, e, -, -, rfl⟩ | ⟨w, i, -, -, hexec⟩
  · exact ⟨(poolInv_resetWith h.voicesAtMost14).congr rfl rfl rfl rfl rfl rfl rfl, rfl⟩
  · exact ⟨h, rfl⟩
  · exact ⟨h.finish _ _, rfl⟩
  · obtain ⟨st, payload, u, rfl, he⟩ := exec_next hexec
    exact ⟨(he.poolInv h).finish _ _, he.keepsFixed.params⟩

/-- Well-formed parameters ask for a pool of at most 14 voices (R10). -/
theorem Params.n_le_of_wf {p : Params} (h : p.wf = true) : p.n ≤ 14 := by
  simp only [Params.wf, Bool.and_eq_true, decide_eq_true_eq] at h
  obtain ⟨⟨⟨⟨⟨-, hn⟩, -⟩, -⟩, -⟩, -⟩ := h
  exact hn

/-- Settles O41: the pool of the state after reset has no channel, no Taken voice and an empty queue. -/
theorem resetMeetsPoolInvariant : Obligations.ResetMeetsPoolInvariant :=
  fun _ h => poolInv_resetWith (Params.n_le_of_wf h)

end Sys2Proof.Machine
end

section
/-! SUPPORT. The control, channel and log invariants (10_state.md R24, R25, R29, R31, R32, R41; 42_midi_output.md R180, R200):
every step keeps them, and with the pool invariants they hold in every reachable state. -/

namespace Sys2Proof.Machine

section Effects
variable {i : Instr} {s u : State} {st : Status} {payload : Payload}

/-! ### The countdown -/

/-- A command loads the countdown with `SETTLE_TICKS` or does not raise it (R29). -/
theorem Effect.settleCnt_cases (he : Effect i s st payload u) :
    u.settleCnt = s.params.settleTicks ∨ u.settleCnt.toNat ≤ s.settleCnt.toNat := by
  cases he with
  | connect _ => exact .inl rfl
  | disconnect _ => exact .inr (by simp)
  | countdown _ hnotZero _ => exact .inr (by rw [State.setSettleCnt_settleCnt]; bv_omega)
  | fire _ _ => exact .inr (by simp)
  | fill len _ _ _ =>
    obtain ⟨vs, hfill, -, -⟩ := assignVoices_eq len s
    exact .inr (by rw [hfill]; exact le_rfl)
  | take _ _ _ _ _ _ _ ht => exact .inr (by rw [ht]; exact le_rfl)
  | relv _ _ _ _ _ _ ht => exact .inr (by rw [ht]; exact le_rfl)
  | press _ _ _ _ _ _ _ _ ht => exact .inr (by rw [ht]; exact le_rfl)
  | unpress _ _ _ _ _ _ ht => exact .inr (by rw [ht]; exact le_rfl)
  | _ => exact .inr le_rfl

theorem Effect.controlInv (he : Effect i s st payload u) (h : ControlInv s) : ControlInv u := by
  have hfixed := he.keepsFixed
  refine ⟨by rw [hfixed.zone, hfixed.params]; exact h.zoneFixed,
    by rw [hfixed.numChannels, hfixed.params]; exact h.numChannelsFixed, ?_⟩
  rw [hfixed.params]
  rcases he.settleCnt_cases with hload | hle
  · rw [hload]
  · exact hle.trans h.settleAtMost

/-! ### The channels -/

/-- A command leaves a staging entry as it was or puts a channel 0 to 16 there (R31, R152). -/
theorem Effect.readStage_cases (he : Effect i s st payload u) (k : VoiceIdx) :
    readStage u k = readStage s k ∨ (readStage u k).toNat ≤ 16 := by
  cases he with
  | stage j ch _ hj hch =>
    by_cases hkj : k = j
    · subst hkj
      by_cases hk : k.toNat < s.stage.length
      · exact .inr (by rw [readStage_writeStage_same ch hk]; exact hch)
      · exact .inl (by simp [readStage, writeStage, List.set_eq_of_length_le (Nat.not_lt.mp hk)])
    · exact .inl (readStage_writeStage_other ch hkj)
  | fill len _ _ _ =>
    obtain ⟨vs, hfill, -, -⟩ := assignVoices_eq len s
    exact .inl (by rw [hfill]; rfl)
  | take _ _ _ _ _ _ _ ht => exact .inl (by rw [ht]; rfl)
  | relv _ _ _ _ _ _ ht => exact .inl (by rw [ht]; rfl)
  | press _ _ _ _ _ _ _ _ ht => exact .inl (by rw [ht]; rfl)
  | unpress _ _ _ _ _ _ ht => exact .inl (by rw [ht]; rfl)
  | _ => exact .inl rfl

/-- A command leaves a voice's channel as it was or gives the voice its staged channel (R32, R153). -/
theorem Effect.channel_cases (he : Effect i s st payload u) (k : VoiceIdx) :
    (readVoice u k).channel = (readVoice s k).channel ∨ (readVoice u k).channel = readStage s k := by
  have hvoice := he.voiceEffect k
  generalize readVoice u k = v at hvoice ⊢
  cases hvoice with
  | filled => exact .inr rfl
  | kept | taken | pressed | released => exact .inl rfl

theorem Effect.channelInv (he : Effect i s st payload u) (h : ChannelInv s) : ChannelInv u where
  stage := fun k => by
    rcases he.readStage_cases k with hk | hk
    · rw [hk]; exact h.stage k
    · exact hk
  voice := fun k => by
    rcases he.channel_cases k with hk | hk <;> rw [hk]
    · exact h.voice k
    · exact h.stage k

end Effects

/-! ### Messages a log may grow by -/

/-- Messages that keep a log legal, whatever stands before them: each on a channel 1 to 16 (R180), and a pitch bend among them
right before each Note-On (R200). -/
structure Sendable (ms : List Msg) : Prop where
  legal : ∀ m ∈ ms, msgLegal m = true
  bendFirst : bendBeforeNote ms

theorem bendBeforeNote_append {log ms : List Msg} (hlog : bendBeforeNote log) (hms : bendBeforeNote ms) :
    bendBeforeNote (log ++ ms) := by
  intro j ch note vel hj
  by_cases hlt : j < log.length
  · rw [List.getElem?_append_left hlt] at hj
    obtain ⟨bend, hpos, hbend⟩ := hlog j ch note vel hj
    exact ⟨bend, hpos, by rw [List.getElem?_append_left (by omega)]; exact hbend⟩
  · rw [List.getElem?_append_right (by omega)] at hj
    obtain ⟨bend, hpos, hbend⟩ := hms _ ch note vel hj
    refine ⟨bend, by omega, ?_⟩
    rw [List.getElem?_append_right (by omega), show j - 1 - log.length = j - log.length - 1 by omega]
    exact hbend

/-- Messages with no Note-On among them need no bend. -/
theorem bendBeforeNote_of_no_noteOn {ms : List Msg} (h : ∀ ch note vel, Msg.noteOn ch note vel ∉ ms) : bendBeforeNote ms :=
  fun _ ch note vel hj => absurd (List.mem_of_getElem? hj) (h ch note vel)

/-- A channel on which the block may send (R180). -/
abbrev sendChannel (ch : Channel) : Prop := 1 ≤ ch.toNat ∧ ch.toNat ≤ 16

theorem sendChannel_of_assigned {ch : Channel} (hne : ch ≠ 0) (hle : ch.toNat ≤ 16) : sendChannel ch :=
  ⟨by bv_omega, hle⟩

theorem sendChannel_masterChannel (zone : Zone) : sendChannel (masterChannel zone) := by
  cases zone <;> decide

theorem msgLegal_iff {m : Msg} : msgLegal m = true ↔ sendChannel (msgChannel m) := by
  simp [msgLegal]

/-- Controller messages on a channel 1 to 16 are sendable. -/
theorem sendable_of_cc {ms : List Msg} {ch : Channel} (hch : sendChannel ch)
    (hms : ∀ m ∈ ms, ∃ controller value, m = .cc ch controller value) : Sendable ms where
  legal := fun m hm => by
    obtain ⟨controller, value, rfl⟩ := hms m hm
    exact msgLegal_iff.mpr hch
  bendFirst := bendBeforeNote_of_no_noteOn fun _ _ _ hmem => by
    obtain ⟨_, _, h⟩ := hms _ hmem
    cases h

theorem cc_of_mem_mcmMsgs {zone : Zone} {numChannels : Midi7} :
    ∀ m ∈ mcmMsgs zone numChannels, ∃ controller value, m = .cc (masterChannel zone) controller value := by
  simp [mcmMsgs]

theorem cc_of_mem_pbrMsgs {form : PbrForm} {ch : Channel} {range : Midi7} :
    ∀ m ∈ pbrMsgs form ch range, ∃ controller value, m = .cc ch controller value := by
  cases form <;> simp [pbrMsgs]

theorem cc_of_mem_initMpeMsgs {s : State} {range : Midi7} :
    ∀ m ∈ initMpeMsgs s range, ∃ controller value, m = .cc (masterChannel s.zone) controller value := by
  intro m hm
  simp only [initMpeMsgs, List.mem_append] at hm
  rcases hm with (hm | hm) | hm
  · exact cc_of_mem_mcmMsgs m hm
  · exact ⟨127, 0, List.mem_singleton.mp hm⟩
  · exact cc_of_mem_pbrMsgs m hm

/-- A bend and a Note-On on one channel 1 to 16 (R187). -/
theorem sendable_noteOn {ch : Channel} (hch : sendChannel ch) (bend : Bend) (note vel : Midi7) :
    Sendable [.pitchBend ch bend, .noteOn ch note vel] where
  legal := by simpa [msgLegal_iff, msgChannel] using hch
  bendFirst := by
    rintro (_ | _ | j) c n v hj
    · simp at hj
    · simp only [List.getElem?_cons_succ, List.getElem?_cons_zero, Option.some.injEq, Msg.noteOn.injEq] at hj
      exact ⟨bend, by simp, by simp [hj.1]⟩
    · simp at hj

/-- A Note-Off on a channel 1 to 16 (R188). -/
theorem sendable_noteOff {ch : Channel} (hch : sendChannel ch) (note vel : Midi7) : Sendable [.noteOff ch note vel] where
  legal := by simpa [msgLegal_iff, msgChannel] using hch
  bendFirst := bendBeforeNote_of_no_noteOn (by simp)

theorem sendable_nil : Sendable [] := ⟨by simp, bendBeforeNote_of_no_noteOn (by simp)⟩

/-! ### The logs -/

/-- Logs that all grow by the same sendable messages keep the log invariants. -/
theorem LogInv.append {s u : State} (h : LogInv s) {ms : List Msg} (hms : Sendable ms)
    (hout : u.out = s.out.map (fun log => log ++ ms)) : LogInv u where
  same := by
    rw [hout]
    simp only [List.mem_map]
    rintro _ ⟨a, ha, rfl⟩ _ ⟨b, hb, rfl⟩
    rw [h.same a ha b hb]
  legal := by
    rw [hout]
    simp only [List.mem_map]
    rintro _ ⟨log, hlog, rfl⟩ m hm
    rcases List.mem_append.mp hm with hm | hm
    · exact h.legal log hlog m hm
    · exact hms.legal m hm
  bendFirst := by
    rw [hout]
    simp only [List.mem_map]
    rintro _ ⟨log, hlog, rfl⟩
    exact bendBeforeNote_append (h.bendFirst log hlog) hms.bendFirst

/-- All a command can add to the logs of a block whose pool and channels are in order: the same sendable messages to each. -/
theorem Effect.out_append {i : Instr} {s u : State} {st : Status} {payload : Payload} (he : Effect i s st payload u)
    (hp : PoolInv s) (hc : ChannelInv s) : ∃ ms, Sendable ms ∧ u.out = s.out.map (fun log => log ++ ms) := by
  cases he with
  | fill len _ _ _ =>
    obtain ⟨vs, hfill, -, -⟩ := assignVoices_eq len s
    exact ⟨[], sendable_nil, by simp [hfill]⟩
  | take _ _ _ _ _ _ _ ht => exact ⟨[], sendable_nil, by simp [ht]⟩
  | relv _ _ _ _ _ _ ht => exact ⟨[], sendable_nil, by simp [ht]⟩
  | press row col vel k rest t _ hq ht =>
    obtain ⟨-, hassigned, -⟩ := hp.free_of_mem_queue (k := k) (by simp [hq])
    have hchannel : (readVoice t k).channel = (readVoice s k).channel := by
      rw [ht, loadNote_allocated, readVoice_setNumTaken, readVoice_setQueue]
      exact channel_writeVoice (by rfl) k
    exact ⟨_, sendable_noteOn (hchannel ▸ sendChannel_of_assigned hassigned (hc.voice k)) _ _ vel, rfl⟩
  | unpress row col k t _ hf ht =>
    obtain ⟨⟨-, htaken⟩, -⟩ := hp.taken_of_findHeld hf
    have hchannel : (readVoice t k).channel = (readVoice s k).channel := by
      rw [ht, readVoice_setNumTaken, readVoice_setQueue]
      exact channel_writeVoice (by rfl) k
    exact ⟨_, sendable_noteOff (hchannel ▸ sendChannel_of_assigned (hp.takenAssigned k htaken) (hc.voice k)) _ 0, rfl⟩
  | zone ms hms =>
    refine ⟨ms, sendable_of_cc (sendChannel_masterChannel s.zone) ?_, rfl⟩
    rcases hms with ⟨-, rfl⟩ | ⟨-, rfl⟩ | ⟨-, rfl⟩ | ⟨range, -, rfl⟩ | ⟨range, -, rfl⟩
    · exact cc_of_mem_mcmMsgs
    · simp [monoMsgs]
    · simp [polyMsgs]
    · exact cc_of_mem_pbrMsgs
    · exact cc_of_mem_initMpeMsgs
  | pbrv k range _ hassigned =>
    exact ⟨_, sendable_of_cc (sendChannel_of_assigned hassigned (hc.voice k)) cc_of_mem_pbrMsgs, rfl⟩
  | fire _ _ => exact ⟨_, sendable_of_cc (sendChannel_masterChannel s.zone) cc_of_mem_initMpeMsgs, rfl⟩
  | refused | kept | setbase | setrange | stage | connect | disconnect | countdown => exact ⟨[], sendable_nil, by simp⟩

/-! ### The state after reset -/

theorem controlInv_resetWith (p : Params) : ControlInv (State.resetWith p) := ⟨rfl, rfl, by simp⟩

theorem channelInv_resetWith (p : Params) : ChannelInv (State.resetWith p) where
  stage := fun k => by
    rw [readStage, State.resetWith_stage, List.getD_eq_getElem?_getD, List.getElem?_replicate]
    split <;> decide
  voice := fun k => by rw [readVoice_resetWith]; decide

theorem logInv_resetWith (p : Params) : LogInv (State.resetWith p) where
  same := fun a ha b hb => by rw [List.eq_of_mem_replicate ha, List.eq_of_mem_replicate hb]
  legal := fun log hlog => by rw [List.eq_of_mem_replicate hlog]; exact sendable_nil.legal
  bendFirst := fun log hlog => by rw [List.eq_of_mem_replicate hlog]; exact sendable_nil.bendFirst

/-! ### Every step -/

/-- Settles O43, by what a step can do. -/
theorem stepKeepsControlInvariant : Obligations.StepKeepsControlInvariant := by
  intro s t h hstep
  rcases step_cases hstep with ⟨-, rfl⟩ | ⟨-, rfl⟩ | ⟨w, e, -, -, rfl⟩ | ⟨w, i, -, -, hexec⟩
  · exact ⟨rfl, rfl, (controlInv_resetWith s.params).settleAtMost⟩
  · exact h
  · exact ⟨h.zoneFixed, h.numChannelsFixed, h.settleAtMost⟩
  · obtain ⟨st, payload, u, rfl, he⟩ := exec_next hexec
    have hu := he.controlInv h
    exact ⟨hu.zoneFixed, hu.numChannelsFixed, hu.settleAtMost⟩

/-- Settles O44, by what a step can do. -/
theorem stepKeepsChannelInvariant : Obligations.StepKeepsChannelInvariant := by
  intro s t h hstep
  rcases step_cases hstep with ⟨-, rfl⟩ | ⟨-, rfl⟩ | ⟨w, e, -, -, rfl⟩ | ⟨w, i, -, -, hexec⟩
  · exact ⟨(channelInv_resetWith s.params).stage, (channelInv_resetWith s.params).voice⟩
  · exact h
  · exact ⟨h.stage, h.voice⟩
  · obtain ⟨st, payload, u, rfl, he⟩ := exec_next hexec
    have hu := he.channelInv h
    exact ⟨hu.stage, hu.voice⟩

/-- Settles O45: the logs all grow by the same sendable messages, or a reset empties them. -/
theorem stepKeepsLogInvariant : Obligations.StepKeepsLogInvariant := by
  intro s t hp hc h hstep
  rcases step_cases hstep with ⟨-, rfl⟩ | ⟨-, rfl⟩ | ⟨w, e, -, -, rfl⟩ | ⟨w, i, -, -, hexec⟩
  · exact (logInv_resetWith s.params).append sendable_nil (by simp [resetEvent])
  · exact h
  · exact h.append sendable_nil (by simp)
  · obtain ⟨st, payload, u, rfl, he⟩ := exec_next hexec
    obtain ⟨ms, hms, hout⟩ := he.out_append hp hc
    exact h.append hms hout

/-! ### Every reachable state -/

/-- What the claims about reachable states rest on: the invariants of the pool, the channels and the logs, for the
block's own parameters. -/
structure ReachableInv (p : Params) (s : State) : Prop where
  params : s.params = p
  pool : PoolInv s
  channel : ChannelInv s
  log : LogInv s

/-- These hold at reset, every step keeps them, and the host writes nothing they speak of. -/
theorem Reachable.reachableInv {p : Params} (hwf : p.wf = true) {s : State} (h : Reachable p s) : ReachableInv p s := by
  induction h with
  | reset => exact ⟨rfl, resetMeetsPoolInvariant p hwf, channelInv_resetWith p, logInv_resetWith p⟩
  | step _ hstep ih =>
    obtain ⟨hpool, hparams⟩ := stepKeepsPoolInvariant _ _ ih.pool hstep
    exact ⟨hparams.trans ih.params, hpool, stepKeepsChannelInvariant _ _ ih.channel hstep,
      stepKeepsLogInvariant _ _ ih.pool ih.channel ih.log hstep⟩
  | hostWrites ws _ ih =>
    exact ⟨ih.params, ih.pool.congr rfl rfl rfl rfl rfl rfl rfl, ⟨ih.channel.stage, ih.channel.voice⟩,
      ⟨ih.log.same, ih.log.legal, ih.log.bendFirst⟩⟩
  | hostResets _ ih =>
    exact ⟨ih.params, ih.pool.congr rfl rfl rfl rfl rfl rfl rfl, ⟨ih.channel.stage, ih.channel.voice⟩,
      ⟨ih.log.same, ih.log.legal, ih.log.bendFirst⟩⟩

/-- The queue is as long as there are Free voices: it holds them, each once (R35). -/
theorem PoolInv.queue_length {s : State} (h : PoolInv s) :
    s.queue.length = (voiceIndices s).countP (fun k => decide ((readVoice s k).channel ≠ 0) && !(readVoice s k).taken) := by
  have h14 := h.voicesAtMost14
  rw [List.countP_eq_length_filter]
  refine List.Perm.length_eq ((List.perm_ext_iff_of_nodup h.queueFree.2 ((nodup_indices (by omega)).filter _)).mpr fun k => ?_)
  rw [h.queueFree.1 k, List.mem_filter, mem_indices (by omega)]
  simp [isFree]

/-- Pool conservation (R37): the Taken voices and the queued ones together are the assigned ones. -/
theorem PoolInv.conserved {s : State} (h : PoolInv s) : s.numTaken.toNat + s.queue.length = assignedCount s := by
  have htaken : ∀ k ∈ voiceIndices s, (decide ((readVoice s k).channel ≠ 0) && (readVoice s k).taken) = true ↔
      (readVoice s k).taken = true := fun k _ => by
    simpa using h.takenAssigned k
  rw [h.numTaken, h.queue_length, takenCount, assignedCount,
    List.countP_eq_countP_filter_add _ (fun k => decide ((readVoice s k).channel ≠ 0)) (fun k => (readVoice s k).taken),
    List.countP_filter, List.countP_filter, List.countP_congr htaken]

/-- Settles O47: the pool invariants of a reachable state, and the conservation they imply. -/
theorem reachablePoolIsConserved : Obligations.ReachablePoolIsConserved := by
  intro p s hwf hs
  obtain ⟨rfl, hpool, -, -⟩ := hs.reachableInv hwf
  exact ⟨hpool.queueFree, hpool.numTaken, hpool.conserved⟩

/-- Settles O49: the log invariants of a reachable state. -/
theorem reachableLogsAreLegal : Obligations.ReachableLogsAreLegal := by
  intro p s hwf hs
  have hlog := (hs.reachableInv hwf).log
  exact ⟨hlog.same, fun log hmem => ⟨fun m hm => msgLegal_iff.mp (hlog.legal log hmem m hm), hlog.bendFirst log hmem⟩⟩

end Sys2Proof.Machine
end

section
/-! SUPPORT. The host's discipline (10_state.md R38, 70_reset_and_hazards.md R277), and that no command looks at the response or,
RDSTAT apart, at the sticky bit (10_state.md R43). -/

namespace Sys2Proof.Machine

/-! ### The coordinates of Taken voices -/

/-- A voice that is Taken after a command was Taken before at its coordinates, or it is the head of the queue, allocated at
coordinates that a disciplined host chose where no voice was Taken. -/
theorem Effect.taken_cases {i : Instr} {s u : State} {st : Status} {payload : Payload} (he : Effect i s st payload u)
    (hp : PoolInv s) (hfresh : allocatesFresh i s = true) {j : VoiceIdx} (hj : isTaken u j) :
    (isTaken s j ∧ (readVoice u j).row = (readVoice s j).row ∧ (readVoice u j).col = (readVoice s j).col) ∨
    (s.queue.head? = some j ∧
      ∀ k, isTaken s k → ¬((readVoice s k).row = (readVoice u j).row ∧ (readVoice s k).col = (readVoice u j).col)) := by
  obtain ⟨hjn, htaken⟩ := hj
  rw [he.keepsFixed.params] at hjn
  have hnone : ∀ row col, (voiceIndices s).any (heldAt s row col) = false →
      ∀ k, isTaken s k → ¬((readVoice s k).row = row ∧ (readVoice s k).col = col) := by
    rintro row col hany k ⟨hkn, hk⟩ ⟨hrow, hcol⟩
    have h14 := hp.voicesAtMost14
    exact List.any_eq_false.mp hany k ((mem_voiceIndices (by omega)).mpr hkn) (by simp [heldAt, hk, hrow, hcol])
  have hvoice := he.voiceEffect j
  generalize readVoice u j = v at hvoice htaken ⊢
  cases hvoice with
  | kept => exact .inl ⟨⟨hjn, htaken⟩, rfl, rfl⟩
  | filled len _ => exact .inl ⟨⟨hjn, htaken⟩, rfl, rfl⟩
  | taken row col rest hi hq =>
    exact .inr ⟨by rw [hq]; rfl, hnone row col (by simpa [hi, allocatesFresh] using hfresh)⟩
  | pressed row col vel rest hi hq =>
    exact .inr ⟨by rw [hq]; rfl, hnone row col (by simpa [hi, allocatesFresh] using hfresh)⟩
  | released row col _ _ => exact absurd htaken (by simp [releasedVoice])

/-- Settles O53: two voices Taken after the command were both Taken before, or one of them is the voice just allocated. -/
theorem disciplineKeepsCoordinatesUnique : Obligations.DisciplineKeepsCoordinatesUnique := by
  intro i s t hp hunique hfresh hexec j k hj hk hrow hcol
  obtain ⟨st, payload, u, rfl, he⟩ := exec_next hexec
  simp only [readVoice_finish] at hrow hcol
  rcases he.taken_cases hp hfresh hj with ⟨hjs, hjrow, hjcol⟩ | ⟨hjhead, hjnew⟩ <;>
    rcases he.taken_cases hp hfresh hk with ⟨hks, hkrow, hkcol⟩ | ⟨hkhead, hknew⟩
  · exact hunique j k hjs hks (by rw [← hjrow, hrow, hkrow]) (by rw [← hjcol, hcol, hkcol])
  · exact absurd ⟨by rw [← hjrow, hrow], by rw [← hjcol, hcol]⟩ (hknew j hjs)
  · exact absurd ⟨by rw [← hkrow, hrow], by rw [← hkcol, hcol]⟩ (hjnew k hks)
  · exact Option.some.inj (hjhead.symm.trans hkhead)

/-! ### The response and the sticky bit steer nothing -/

/-- The state with another last response and another sticky bit. -/
def withStatus (r : RespWord) (b : Bool) (s : State) : State := (s.setResp r).setStickyErr b

theorem setResp_eq_withStatus (s : State) (r : RespWord) : s.setResp r = withStatus r s.stickyErr s := rfl

theorem setStickyErr_eq_withStatus (s : State) (b : Bool) : s.setStickyErr b = withStatus s.resp b s := rfl

section Status
variable (r : RespWord) (b : Bool) (s : State)

@[simp] theorem withStatus_filled : (withStatus r b s).filled = s.filled := rfl
@[simp] theorem withStatus_settleCnt : (withStatus r b s).settleCnt = s.settleCnt := rfl
@[simp] theorem withStatus_params : (withStatus r b s).params = s.params := rfl
@[simp] theorem readNote_withStatus (row col : Coord) : readNote (withStatus r b s) row col = readNote s row col := rfl
@[simp] theorem voicePayload_withStatus (k : VoiceIdx) : voicePayload (withStatus r b s) k = voicePayload s k := rfl

theorem loadNote_withStatus (k : VoiceIdx) (n : Note) :
    loadNote k n (withStatus r b s) = withStatus r b (loadNote k n s) := rfl

theorem emitAll_withStatus (ms : List Msg) : emitAll ms (withStatus r b s) = withStatus r b (emitAll ms s) := by
  simp only [emitAll_eq]
  rfl

theorem sendNoteOn_withStatus (k : VoiceIdx) (vel : Midi7) :
    sendNoteOn k vel (withStatus r b s) = withStatus r b (sendNoteOn k vel s) := emitAll_withStatus r b s _

theorem sendNoteOff_withStatus (k : VoiceIdx) (vel : Midi7) :
    sendNoteOff k vel (withStatus r b s) = withStatus r b (sendNoteOff k vel s) := emitAll_withStatus r b s _

theorem initMpeSeq_withStatus (range : Midi7) : initMpeSeq range (withStatus r b s) = withStatus r b (initMpeSeq range s) :=
  emitAll_withStatus r b s _

theorem takeCore_withStatus (row col : Coord) :
    takeCore row col (withStatus r b s) = (takeCore row col s).map (fun kt => (kt.1, withStatus r b kt.2)) := by
  cases hq : takeCore row col s with
  | none => exact takeCore_eq_none.mpr (takeCore_eq_none (s := s).mp hq)
  | some kt =>
    obtain ⟨k, t⟩ := kt
    obtain ⟨rest, hqueue, rfl⟩ := takeCore_eq_some.mp hq
    exact takeCore_eq_some.mpr ⟨rest, hqueue, rfl⟩

theorem releaseCore_withStatus (row col : Coord) :
    releaseCore row col (withStatus r b s) = (releaseCore row col s).map (fun kt => (kt.1, withStatus r b kt.2)) := by
  cases hq : releaseCore row col s with
  | none => exact releaseCore_eq_none.mpr (releaseCore_eq_none (s := s).mp hq)
  | some kt =>
    obtain ⟨k, t⟩ := kt
    obtain ⟨hfound, rfl⟩ := releaseCore_eq_some.mp hq
    exact releaseCore_eq_some.mpr ⟨hfound, rfl⟩

theorem assignVoice_withStatus (k : VoiceIdx) : assignVoice (withStatus r b s) k = withStatus r b (assignVoice s k) := by
  simp only [assignVoice_eq]
  rfl

theorem assignVoices_withStatus (len : BitVec 4) : assignVoices len (withStatus r b s) = withStatus r b (assignVoices len s) :=
  List.foldl_hom (withStatus r b) (fun t k => assignVoice_withStatus r b t k)

theorem tickSettle_withStatus : tickSettle (withStatus r b s) = withStatus r b (tickSettle s) := by
  simp only [tickSettle_eq, withStatus_settleCnt, apply_ite (withStatus r b)]
  rfl

end Status

/-- `a'` is the answer `a` of a command, given with another last response `r` and another sticky bit `b`: the same status and
payload, in states that differ in these two alone. -/
def SameAnswer (r : RespWord) (b : Bool) (a a' : Result) : Prop :=
  ∃ st payload u, a = .next (finish st payload u) ∧ a' = .next (finish st payload (withStatus r b u))

theorem sameAnswer_finish (r : RespWord) (b : Bool) (st : Status) (payload : Payload) (u : State) :
    SameAnswer r b (.next (finish st payload u)) (.next (finish st payload (withStatus r b u))) :=
  ⟨st, payload, u, rfl, rfl⟩

theorem SameAnswer.ite {r : RespWord} {b : Bool} {p : Prop} [Decidable p] {x x' y y' : Result} (hx : SameAnswer r b x x')
    (hy : SameAnswer r b y y') : SameAnswer r b (if p then x else y) (if p then x' else y') := by
  split
  · exact hx
  · exact hy

/-- A command answers the same whatever the last response was, and whatever the sticky bit was unless it is RDSTAT, which
reports it (R43). -/
theorem exec_withStatus {i : Instr} {s : State} {r : RespWord} {b : Bool} (h : i = .rdstat → b = s.stickyErr) :
    SameAnswer r b (exec i s) (exec i (withStatus r b s)) := by
  have hend := sameAnswer_finish r b
  cases i with
  | nop | setbase | getnote | romrd | mcm | mono | poly | connect | disconnect => exact hend _ _ _
  | setrange range => exact .ite (hend _ _ _) (hend _ _ _)
  | stage k ch => exact .ite (hend _ _ _) (hend _ _ _)
  | fill len =>
    simp only [exec, execFill, withStatus_filled, withStatus_params, assignVoices_withStatus]
    exact .ite (hend _ _ _) (.ite (hend _ _ _) (hend _ _ _))
  | take row col =>
    simp only [exec, execTake, takeCore_withStatus]
    cases takeCore row col s with
    | none => exact hend _ _ _
    | some kt => exact hend _ _ _
  | relv row col =>
    simp only [exec, execRelv, releaseCore_withStatus]
    cases releaseCore row col s with
    | none => exact hend _ _ _
    | some kt => exact hend _ _ _
  | getv k => exact .ite (hend _ _ _) (hend _ _ _)
  | press row col vel =>
    simp only [exec, execPress, takeCore_withStatus]
    cases takeCore row col s with
    | none => exact hend _ _ _
    | some kt =>
      simp only [Option.map_some, readNote_withStatus, loadNote_withStatus, sendNoteOn_withStatus, voicePayload_withStatus]
      exact hend _ _ _
  | unpress row col =>
    simp only [exec, execUnpress, releaseCore_withStatus]
    cases releaseCore row col s with
    | none => exact hend _ _ _
    | some kt =>
      simp only [Option.map_some, sendNoteOff_withStatus, voicePayload_withStatus]
      exact hend _ _ _
  | pbrz range =>
    simp only [exec, execPbrz, emitAll_withStatus]
    exact .ite (hend _ _ _) (hend _ _ _)
  | pbrv k range =>
    simp only [exec, execPbrv, emitAll_withStatus]
    exact .ite (.ite (hend _ _ _) (hend _ _ _)) (hend _ _ _)
  | initmpe range =>
    simp only [exec, execInitmpe, initMpeSeq_withStatus]
    exact .ite (hend _ _ _) (hend _ _ _)
  | tick =>
    simp only [exec, execTick, tickSettle_withStatus]
    exact hend _ _ _
  | rdstat =>
    obtain rfl := h rfl
    exact hend _ _ _

/-- The end of a command writes the response anew, and the sticky bit from its status and the bit it finds. -/
theorem finish_withStatus (st : Status) (payload : Payload) (u : State) (r : RespWord) (b : Bool) :
    finish st payload (withStatus r b u) = (finish st payload u).setStickyErr (stickyAfter st b) := rfl

theorem statusCode_injective : Function.Injective statusCode := by
  intro a b h
  cases a <;> cases b <;> simp_all [statusCode]

/-- However a command's answer is written as an end, the sticky bit after it comes of the one before the command. -/
theorem stickyErr_of_exec {i : Instr} {s u : State} {st : Status} {payload : Payload}
    (h : exec i s = .next (finish st payload u)) : (finish st payload u).stickyErr = stickyAfter st s.stickyErr := by
  obtain ⟨st', payload', u', heq, he⟩ := exec_next h
  have hst : st = st' := statusCode_injective (by
    simpa only [finish_resp, respStatus_respWord] using congrArg (fun t => respStatus t.resp) heq)
  rw [heq, finish_stickyErr, he.keepsFixed.stickyErr, hst]

/-- No command looks at the last response, and every command overwrites it. -/
theorem exec_setResp (i : Instr) (s : State) (r : RespWord) : exec i (s.setResp r) = exec i s := by
  obtain ⟨st, payload, u, h, h'⟩ := exec_withStatus (i := i) (s := s) (r := r) (fun _ => rfl)
  rw [setResp_eq_withStatus, h', h, finish_withStatus, ← stickyErr_of_exec h, State.setStickyErr_self]

/-- No word's effect depends on the last response. -/
theorem perform_setResp (w : CmdWord) (s : State) (r : RespWord) : perform w (s.setResp r) = perform w s := by
  cases hd : decode w with
  | ok i =>
    rw [perform_of_decode_ok hd, perform_of_decode_ok hd]
    exact after_eq (by rw [exec_setResp, exec_eq_next_after])
  | error e =>
    rw [perform_of_decode_error hd, perform_of_decode_error hd]
    rfl

/-- Of the sticky bit only RDSTAT's answer depends, the sticky bit itself left aside. -/
theorem after_setStickyErr {i : Instr} (hi : i ≠ .rdstat) (s : State) (b : Bool) :
    (after i (s.setStickyErr b)).setStickyErr false = (after i s).setStickyErr false := by
  obtain ⟨st, payload, u, h, h'⟩ := exec_withStatus (i := i) (s := s) (r := s.resp) (b := b) (fun e => absurd e hi)
  rw [setStickyErr_eq_withStatus s b, after_eq h', after_eq h, finish_withStatus, State.setStickyErr_twice]

/-- Settles O39: the first word of a sequence overwrites the response, so that nothing after it sees the old one. -/
theorem earlierStatusSteersNothing : Obligations.EarlierStatusSteersNothing := by
  refine ⟨exec_setResp, fun ws s r => ?_, fun i s b hi => after_setStickyErr hi s b⟩
  cases ws with
  | nil => rfl
  | cons w ws => simp only [observe, perform_setResp]

end Sys2Proof.Machine
end

section
/-! SUPPORT. The ring buffer behind the queue (10_state.md R34): what an enqueue and a dequeue make of the sequence it stands for,
and that it answers as that sequence does. -/

namespace Sys2Proof.Machine

/-! ### Positions in the ring -/

/-- A position reached from two within the ring is reduced by at most one turn. -/
theorem mod_eq_ite_of_lt_two_mul {a m : Nat} (h : a < 2 * m) : a % m = if a < m then a else a - m := by
  split
  · exact Nat.mod_eq_of_lt ‹_›
  · rw [Nat.mod_eq_sub_mod (by omega), Nat.mod_eq_of_lt (by omega)]

section Positions
variable {n : Nat} {r : Ring} (h : ringWf n r)
include h

theorem ringLength_eq : ringLength r = if r.head ≤ r.tail then r.tail - r.head else r.tail + (n + 1) - r.head := by
  obtain ⟨hslots, hhead, htail⟩ := h
  rw [ringLength, hslots, mod_eq_ite_of_lt_two_mul (by omega)]
  split <;> split <;> omega

theorem ringPosition_eq {j : Nat} (hj : j ≤ n) :
    (r.head + j) % r.slots.length = if r.head + j < n + 1 then r.head + j else r.head + j - (n + 1) := by
  obtain ⟨hslots, hhead, -⟩ := h
  rw [hslots, mod_eq_ite_of_lt_two_mul (by omega)]

theorem ringLength_le : ringLength r ≤ n := by
  rw [ringLength_eq h]
  obtain ⟨-, hhead, htail⟩ := h
  split <;> omega

/-- The ring is empty exactly where head and tail meet. -/
theorem ringLength_eq_zero : ringLength r = 0 ↔ r.head = r.tail := by
  rw [ringLength_eq h]
  obtain ⟨-, hhead, htail⟩ := h
  split <;> omega

/-- The tail stands one place after the indices held. -/
theorem ringPosition_length : (r.head + ringLength r) % r.slots.length = r.tail := by
  rw [ringPosition_eq h (ringLength_le h), ringLength_eq h]
  obtain ⟨-, hhead, htail⟩ := h
  split <;> split <;> omega

/-- No index held stands at the tail. -/
theorem ringPosition_ne_tail {j : Nat} (hj : j < ringLength r) : (r.head + j) % r.slots.length ≠ r.tail := by
  have hle := ringLength_le h
  rw [ringPosition_eq h (by omega)]
  rw [ringLength_eq h] at hj
  obtain ⟨-, hhead, htail⟩ := h
  split at hj <;> split <;> omega

/-! ### Enqueue -/

theorem ringEnqueue_tail (k : VoiceIdx) : (ringEnqueue r k).tail = if r.tail < n then r.tail + 1 else 0 := by
  obtain ⟨hslots, -, htail⟩ := h
  change (r.tail + 1) % r.slots.length = _
  rw [hslots, mod_eq_ite_of_lt_two_mul (by omega)]
  split <;> split <;> omega

theorem ringWf_enqueue (k : VoiceIdx) : ringWf n (ringEnqueue r k) := by
  refine ⟨by simp [ringEnqueue, h.1], h.2.1, ?_⟩
  rw [ringEnqueue_tail h]
  split <;> omega

theorem ringLength_enqueue (k : VoiceIdx) (hroom : ringLength r < n) : ringLength (ringEnqueue r k) = ringLength r + 1 := by
  have hhead' : (ringEnqueue r k).head = r.head := rfl
  rw [ringLength_eq (ringWf_enqueue h k), ringEnqueue_tail h, hhead', ringLength_eq h]
  rw [ringLength_eq h] at hroom
  obtain ⟨-, hhead, htail⟩ := h
  split at hroom <;> split_ifs <;> omega

/-- An enqueue with room puts the index at the end of the sequence. -/
theorem ringSeq_enqueue (k : VoiceIdx) (hroom : ringLength r < n) : ringSeq (ringEnqueue r k) = ringSeq r ++ [k] := by
  obtain ⟨hslots, -, htail⟩ := id h
  have hlen : (ringEnqueue r k).slots.length = r.slots.length := by simp [ringEnqueue]
  rw [ringSeq, ringLength_enqueue h k hroom, List.range_succ, List.map_append, List.map_singleton, hlen, ringSeq]
  congr 1
  · refine List.map_congr_left fun j hj => ?_
    have hne := ringPosition_ne_tail h (List.mem_range.mp hj)
    simp [ringEnqueue, List.getD_eq_getElem?_getD, List.getElem?_set_ne hne.symm]
  · have hlast : ((ringEnqueue r k).head + ringLength r) % r.slots.length = r.tail := ringPosition_length h
    rw [hlast]
    simp [ringEnqueue, List.getD_eq_getElem?_getD, show r.tail < r.slots.length by omega]

/-! ### Dequeue -/

/-- An empty ring stands for no index. -/
theorem ringSeq_of_head_eq_tail (hempty : r.head = r.tail) : ringSeq r = [] := by
  rw [ringSeq, (ringLength_eq_zero h).mpr hempty]
  rfl

end Positions

/-- The ring a dequeue leaves (`ringDequeue_eq`). -/
def ringAdvance (r : Ring) : Ring := { r with head := (r.head + 1) % r.slots.length }

theorem ringDequeue_eq (r : Ring) :
    ringDequeue r = if r.head = r.tail then none else some (r.slots.getD r.head 0, ringAdvance r) := rfl

section Positions
variable {n : Nat} {r : Ring} (h : ringWf n r)
include h

theorem ringAdvance_head : (ringAdvance r).head = if r.head < n then r.head + 1 else 0 := by
  obtain ⟨hslots, hhead, -⟩ := h
  change (r.head + 1) % r.slots.length = _
  rw [hslots, mod_eq_ite_of_lt_two_mul (by omega)]
  split <;> split <;> omega

theorem ringWf_advance : ringWf n (ringAdvance r) := by
  refine ⟨h.1, ?_, h.2.2⟩
  rw [ringAdvance_head h]
  split <;> omega

theorem ringLength_advance (hne : r.head ≠ r.tail) : ringLength r = ringLength (ringAdvance r) + 1 := by
  have htail' : (ringAdvance r).tail = r.tail := rfl
  rw [ringLength_eq (ringWf_advance h), ringAdvance_head h, htail', ringLength_eq h]
  obtain ⟨-, hhead, htail⟩ := h
  split_ifs <;> omega

/-- The sequence of a ring that is not empty: the index at its head, and what the ring stands for after a dequeue. -/
theorem ringSeq_advance (hne : r.head ≠ r.tail) : ringSeq r = r.slots.getD r.head 0 :: ringSeq (ringAdvance r) := by
  have hfirst : (r.head + 0) % r.slots.length = r.head := Nat.mod_eq_of_lt (by have := h.1; have := h.2.1; omega)
  have hrest : ∀ j, (r.head + (j + 1)) % r.slots.length = ((ringAdvance r).head + j) % (ringAdvance r).slots.length :=
    fun j => by simp only [ringAdvance, Nat.mod_add_mod, Nat.add_assoc, Nat.add_comm 1]
  rw [ringSeq, ringLength_advance h hne, List.range_succ_eq_map, List.map_cons, hfirst, List.map_map, ringSeq]
  congr 1
  exact List.map_congr_left fun j _ => by simp only [Function.comp_apply, Nat.succ_eq_add_one, hrest]; rfl

/-! ### Any use of the ring -/

/-- One use of the ring answers as the same use of its sequence does and leaves a ring for the sequence after, where the
sequence after has room in it. -/
theorem ringOp_eq_seqOp (op : QueueOp) (hroom : (seqOp (ringSeq r) op).2.length ≤ n) :
    (ringOp r op).1 = (seqOp (ringSeq r) op).1 ∧ ringSeq (ringOp r op).2 = (seqOp (ringSeq r) op).2 ∧
      ringWf n (ringOp r op).2 := by
  cases op with
  | enqueue k =>
    have hlength : ringLength r < n := by simpa [seqOp, ringSeq] using hroom
    exact ⟨rfl, ringSeq_enqueue h k hlength, ringWf_enqueue h k⟩
  | dequeue =>
    by_cases hempty : r.head = r.tail
    · rw [ringOp, ringDequeue_eq, if_pos hempty, ringSeq_of_head_eq_tail h hempty]
      exact ⟨rfl, rfl, h⟩
    · rw [ringOp, ringDequeue_eq, if_neg hempty, ringSeq_advance h hempty]
      exact ⟨rfl, rfl, ringWf_advance h⟩

end Positions

theorem length_le_of_staysWithin {n : Nat} {q : List VoiceIdx} {ops : List QueueOp} (h : staysWithin n q ops = true) :
    q.length ≤ n := by
  cases ops with
  | nil => exact of_decide_eq_true h
  | cons op ops =>
    simp only [staysWithin, Bool.and_eq_true, decide_eq_true_eq] at h
    exact h.1

/-- A run of uses of the ring answers as the same run of its sequence. -/
theorem ringAnswers_eq_seqAnswers {n : Nat} (ops : List QueueOp) {r : Ring} (h : ringWf n r)
    (hstays : staysWithin n (ringSeq r) ops = true) : ringAnswers r ops = seqAnswers (ringSeq r) ops := by
  induction ops generalizing r with
  | nil => rfl
  | cons op ops ih =>
    simp only [staysWithin, Bool.and_eq_true] at hstays
    obtain ⟨-, hrest⟩ := hstays
    obtain ⟨hanswer, hseq, hwf⟩ := ringOp_eq_seqOp h op (length_le_of_staysWithin hrest)
    rw [ringAnswers, seqAnswers, hanswer, ih hwf (hseq ▸ hrest), hseq]

/-- The ring after reset is well formed and stands for the empty sequence (R271). -/
theorem ringWf_reset (n : Nat) : ringWf n (ringReset n) := ⟨by simp [ringReset], Nat.zero_le n, Nat.zero_le n⟩

theorem ringSeq_reset (n : Nat) : ringSeq (ringReset n) = [] := ringSeq_of_head_eq_tail (ringWf_reset n) rfl

/-- Settles O54: from the ring after reset, by induction on the uses. -/
theorem ringAnswersAsSequence : Obligations.RingAnswersAsSequence := by
  intro n ops h
  rw [← ringSeq_reset n] at h ⊢
  exact ringAnswers_eq_seqAnswers ops (ringWf_reset n) h

end Sys2Proof.Machine
end

section
/-! SUPPORT. The index spaces (20_memory.md): the commands that read them have no side effect (R76), and every step keeps the note
cache current (R67) and the range above 0 (10_state.md R23). -/

namespace Sys2Proof.Machine

/-! ### The commands that read -/

/-- GETNOTE, ROMRD, GETV and RDSTAT, the commands of R76. -/
abbrev isRead (i : Instr) : Prop :=
  (∃ row col, i = .getnote row col) ∨ (∃ row col, i = .romrd row col) ∨ (∃ k, i = .getv k) ∨ i = .rdstat

/-- A status that does not set the sticky bit leaves nothing of a command's end but the response and `cmdidx` (R247). -/
theorem finish_of_not_setsSticky {st : Status} (hst : setsSticky st = false) (payload : Payload) (s : State) :
    finish st payload s = (s.setResp (respWord st payload)).setCmdidx (s.cmdidx + 1) := by
  rw [finish, stickyAfter, hst]
  rfl

/-- A read ends at once, OK or (GETV outside the pool) ABSENT, with an answer in which the last response and `cmdidx` have no
part. -/
theorem after_of_isRead {i : Instr} (hi : isRead i) (s : State) : ∃ st payload, setsSticky st = false ∧
    ∀ r n, after i ((s.setResp r).setCmdidx n) = finish st payload ((s.setResp r).setCmdidx n) := by
  rcases hi with ⟨row, col, rfl⟩ | ⟨row, col, rfl⟩ | ⟨k, rfl⟩ | rfl
  · exact ⟨.ok, notePayload (readNote s row col), rfl, fun _ _ => rfl⟩
  · exact ⟨.ok, tonePayload (readTone s row col), rfl, fun _ _ => rfl⟩
  · by_cases hk : indexLegal s.params.n k = true
    · exact ⟨.ok, voicePayload s k, rfl, fun _ _ => after_eq (if_pos hk)⟩
    · exact ⟨.absent, 0, rfl, fun _ _ => after_eq (if_neg hk)⟩
  · exact ⟨.ok, statusPayload s, rfl, fun _ _ => rfl⟩

/-- Settles O38: a read writes the response and `cmdidx` alone, and its answer has no part of either. -/
theorem readsHaveNoSideEffects : Obligations.ReadsHaveNoSideEffects := by
  intro i s hi
  obtain ⟨st, payload, hst, hanswer⟩ := after_of_isRead hi s
  have hfirst : after i s = (s.setResp (respWord st payload)).setCmdidx (s.cmdidx + 1) :=
    (hanswer s.resp s.cmdidx).trans (finish_of_not_setsSticky hst payload s)
  rw [hfirst, hanswer]
  exact ⟨rfl, rfl⟩

/-! ### The tuning invariants -/

/-- SETBASE and SETRANGE recompute the cache, the range of SETRANGE not 0; no other command touches the two registers, the cache
or the Tone ROM. -/
theorem Effect.tuningInv {i : Instr} {s u : State} {st : Status} {payload : Payload} (he : Effect i s st payload u)
    (h : TuningInv s) : TuningInv u := by
  obtain ⟨hrange, hcache⟩ := h
  cases he with
  | setbase note _ => exact ⟨hrange, rfl⟩
  | setrange range _ hnotZero => exact ⟨hnotZero, rfl⟩
  | fill len _ _ _ =>
    obtain ⟨vs, hfill, -, -⟩ := assignVoices_eq len s
    rw [hfill]
    exact ⟨hrange, hcache⟩
  | take _ _ _ _ _ _ _ ht => subst ht; exact ⟨hrange, hcache⟩
  | relv _ _ _ _ _ _ ht => subst ht; exact ⟨hrange, hcache⟩
  | press _ _ _ _ _ _ _ _ ht => subst ht; exact ⟨hrange, hcache⟩
  | unpress _ _ _ _ _ _ ht => subst ht; exact ⟨hrange, hcache⟩
  | _ => exact ⟨hrange, hcache⟩

/-- Well-formed parameters ask for a bend range above 0 (R10). -/
theorem Params.cfgPbRange_ne_zero_of_wf {p : Params} (h : p.wf = true) : p.cfgPbRange ≠ 0 := by
  simp only [Params.wf, Bool.and_eq_true, decide_eq_true_eq] at h
  obtain ⟨⟨⟨-, hrange⟩, -⟩, -⟩ := h
  exact hrange

/-- The state after reset: its range is the parameters' and its cache is computed from its registers (R271, R272). -/
theorem tuningInv_resetWith {p : Params} (hp : p.cfgPbRange ≠ 0) : TuningInv (State.resetWith p) := ⟨hp, rfl⟩

/-- Settles O42, by what a step can do. -/
theorem stepKeepsTuningInvariant : Obligations.StepKeepsTuningInvariant := by
  intro s t hwf h hstep
  rcases step_cases hstep with ⟨-, rfl⟩ | ⟨-, rfl⟩ | ⟨w, e, -, -, rfl⟩ | ⟨w, i, -, -, hexec⟩
  · have hreset := tuningInv_resetWith (Params.cfgPbRange_ne_zero_of_wf hwf)
    exact ⟨hreset.rangeNotZero, hreset.cacheCurrent⟩
  · exact h
  · exact ⟨h.rangeNotZero, h.cacheCurrent⟩
  · obtain ⟨st, payload, u, rfl, he⟩ := exec_next hexec
    have hu := he.tuningInv h
    exact ⟨hu.rangeNotZero, hu.cacheCurrent⟩

end Sys2Proof.Machine
end

section
/-! SUPPORT. The decoder and the encoder (30_encoding.md R91 to R97, R108): a word lies in at most one row of the opcode map, the
decoder finds that row, and on the words of a row the encoder and the row's reading of the operands undo each other. -/

namespace Sys2Proof

/-! ### The rows of the opcode map -/

/-- Every row of R93 fixes the whole opcode field, and the row at place `j` fixes it to `j`. -/
theorem opcodeTable_op : ∀ j : Fin opcodeTable.length,
    fieldOp opcodeTable[j].mask = BitVec.allOnes 6 ∧ (fieldOp opcodeTable[j].pattern).toNat = j := by
  decide

/-- A field of a word that its row's mask keeps whole is as the row's pattern has it. -/
theorem extractLsb'_eq_of_match {w mask pattern : CmdWord} {start n : Nat} (hw : w &&& mask = pattern)
    (hmask : mask.extractLsb' start n = BitVec.allOnes n) : w.extractLsb' start n = pattern.extractLsb' start n := by
  rw [← hw, BitVec.extractLsb'_and, hmask, BitVec.and_allOnes]

/-- A word that matches a row has that row's opcode. -/
theorem fieldOp_of_match {w : CmdWord} {j : Nat} {r : OpRow} (hr : opcodeTable[j]? = some r)
    (hw : w &&& r.mask = r.pattern) : (fieldOp w).toNat = j := by
  obtain ⟨hj, rfl⟩ := List.getElem?_eq_some_iff.mp hr
  obtain ⟨hmask, hpattern⟩ := opcodeTable_op ⟨j, hj⟩
  exact (congrArg BitVec.toNat (extractLsb'_eq_of_match hw hmask)).trans hpattern

/-! ### The decoder -/

/-- The decoder reads a command exactly from the words that match a row, and then the row's command (R97). -/
theorem decode_eq_ok_iff {w : CmdWord} {i : Instr} :
    decode w = .ok i ↔ ∃ r ∈ opcodeTable, w &&& r.mask = r.pattern ∧ r.build w = i := by
  constructor
  · intro h
    unfold decode at h
    split at h
    · cases h
    · rename_i r hr
      split at h
      · rename_i hw
        exact ⟨r, List.mem_of_getElem? hr, hw, Except.ok.inj h⟩
      · cases h
  · rintro ⟨r, hmem, hw, rfl⟩
    obtain ⟨j, hr⟩ := List.mem_iff_getElem?.mp hmem
    rw [← fieldOp_of_match hr hw] at hr
    simp only [decode, hr, if_pos hw]

/-- The decoder rejects a word exactly when it reads no command from it. -/
theorem decode_eq_error_iff {w : CmdWord} : (∃ e, decode w = .error e) ↔ ∀ i, decode w ≠ .ok i := by
  cases decode w <;> simp

/-! ### The words of a row -/

/-- The value `x` of a field is the one a row of the map fixes, or the one read from the word. -/
def FixedOrRead {n : Nat} (field : CmdWord → BitVec n) (mask pattern w : CmdWord) (x : BitVec n) : Prop :=
  field mask = BitVec.allOnes n ∧ field pattern = x ∨ x = field w

theorem FixedOrRead.eq_extractLsb' {w mask pattern : CmdWord} {start n : Nat} {x : BitVec n}
    (h : FixedOrRead (BitVec.extractLsb' start n) mask pattern w x) (hw : w &&& mask = pattern) :
    x = w.extractLsb' start n := by
  obtain ⟨hmask, rfl⟩ | hread := h
  · exact (extractLsb'_eq_of_match hw hmask).symm
  · exact hread

/-- A word is the packing of given fields where each is fixed by a row the word matches, or read from the word. -/
theorem packWord_eq_of_match {w mask pattern : CmdWord} {op : BitVec 6} {row col : Coord} {imm : Midi7} {idx : VoiceIdx}
    {ch : Channel} {len : BitVec 4} (hw : w &&& mask = pattern) (hop : FixedOrRead fieldOp mask pattern w op)
    (hrow : FixedOrRead fieldRow mask pattern w row) (hcol : FixedOrRead fieldCol mask pattern w col)
    (himm : FixedOrRead fieldImm mask pattern w imm) (hidx : FixedOrRead fieldIdx mask pattern w idx)
    (hch : FixedOrRead fieldCh mask pattern w ch) (hlen : FixedOrRead fieldLen mask pattern w len) :
    packWord op row col imm idx ch len = w := by
  rw [hop.eq_extractLsb' hw, hrow.eq_extractLsb' hw, hcol.eq_extractLsb' hw, himm.eq_extractLsb' hw,
    hidx.eq_extractLsb' hw, hch.eq_extractLsb' hw, hlen.eq_extractLsb' hw]
  exact packWord_fields w

/-- No bit of a word is ignored (R94): a word that matches a row is the word of the command the row reads from it, since each
field is either one the row reads or one it fixes. -/
theorem encode_build_of_match {w : CmdWord} {r : OpRow} (hr : r ∈ opcodeTable) (hw : w &&& r.mask = r.pattern) :
    encode (r.build w) = w := by
  fin_cases hr
  all_goals
    exact packWord_eq_of_match hw (by simp [FixedOrRead, fieldOp, opcodeOf]) (by simp [FixedOrRead, fieldRow])
      (by simp [FixedOrRead, fieldCol]) (by simp [FixedOrRead, fieldImm]) (by simp [FixedOrRead, fieldIdx])
      (by simp [FixedOrRead, fieldCh]) (by simp [FixedOrRead, fieldLen])

/-- The row of a command's opcode reads the command back from its word. -/
theorem build_encode {i : Instr} {r : OpRow} (hr : opcodeTable[(opcodeOf i).toNat]? = some r) : r.build (encode i) = i := by
  cases i
  all_goals
    obtain rfl := Option.some.inj hr
    simp [encode]

/-- The word of every command lies in the row of its opcode. -/
theorem encodedWord (i : Instr) : Laws.EncodedWord.Statement i := by
  cases i with
  | nop => exact Laws.EncodedWord.nop
  | setbase note => exact Laws.EncodedWord.setbase note
  | setrange range => exact Laws.EncodedWord.setrange range
  | getnote row col => exact Laws.EncodedWord.getnote row col
  | romrd row col => exact Laws.EncodedWord.romrd row col
  | stage idx ch => exact Laws.EncodedWord.stage idx ch
  | fill len => exact Laws.EncodedWord.fill len
  | take row col => exact Laws.EncodedWord.take row col
  | relv row col => exact Laws.EncodedWord.relv row col
  | getv idx => exact Laws.EncodedWord.getv idx
  | press row col vel => exact Laws.EncodedWord.press row col vel
  | unpress row col => exact Laws.EncodedWord.unpress row col
  | mcm => exact Laws.EncodedWord.mcm
  | mono => exact Laws.EncodedWord.mono
  | poly => exact Laws.EncodedWord.poly
  | pbrz range => exact Laws.EncodedWord.pbrz range
  | pbrv idx range => exact Laws.EncodedWord.pbrv idx range
  | initmpe range => exact Laws.EncodedWord.initmpe range
  | connect => exact Laws.EncodedWord.connect
  | disconnect => exact Laws.EncodedWord.disconnect
  | tick => exact Laws.EncodedWord.tick
  | rdstat => exact Laws.EncodedWord.rdstat

/-! ### The round trips -/

/-- The word of a command lies in the row of its opcode, which reads the command back. -/
theorem decode_encode (i : Instr) : decode (encode i) = .ok i := by
  obtain ⟨-, r, hr, hw⟩ := encodedWord i
  exact decode_eq_ok_iff.mpr ⟨r, List.mem_of_getElem? hr, hw, build_encode hr⟩

/-- Settles O1, by the row of the command's own opcode. -/
theorem decodeGivesBackEncoded : Obligations.DecodeGivesBackEncoded := decode_encode

/-- Settles O2: the row a word matches reads or fixes every field of it. -/
theorem decodedWordIsItsEncoding : Obligations.DecodedWordIsItsEncoding := by
  intro w i h
  obtain ⟨r, hr, hw, rfl⟩ := decode_eq_ok_iff.mp h
  exact encode_build_of_match hr hw

/-- Settles O3: the opcode of a word is the place of the only row it can match. -/
theorem everyWordMatchesAtMostOneRow : Obligations.EveryWordMatchesAtMostOneRow := by
  refine ⟨fun w i => decode_eq_ok_iff, fun w => ?_, fun w j k a b ha hb hwa hwb => ?_⟩
  · rw [decode_eq_error_iff]
    simp only [ne_eq, decode_eq_ok_iff]
    exact ⟨fun h r hr hw => h _ ⟨r, hr, hw, rfl⟩, fun h i ⟨r, hr, hw, _⟩ => h r hr hw⟩
  · exact (fieldOp_of_match ha hwa).symm.trans (fieldOp_of_match hb hwb)

/-- Settles O4: each word of R108 is the word of its command. -/
theorem exampleWordsDecode : Obligations.ExampleWordsDecode :=
  ⟨decode_encode .nop, decode_encode (.setbase 36), decode_encode (.setrange 48), decode_encode (.getnote 0 2),
    decode_encode (.stage 1 2), decode_encode (.fill 2), decode_encode (.take 1 2), decode_encode (.press 1 2 100),
    decode_encode (.pbrv 3 48), decode_encode .tick⟩

end Sys2Proof
end

section
/-! SUPPORT. The assembler (30_encoding.md R105, R106): what an accepted command line assembles to, and what the commands of
FILLV make of the state after reset. -/

namespace Sys2Proof.Machine

/-! ### Command lines -/

theorem operandsFit_nil {vs : List Nat} : operandsFit [] vs = true ↔ vs = [] := by
  cases vs <;> simp [operandsFit]

theorem operandsFit_cons {w : Nat} {ws vs : List Nat} :
    operandsFit (w :: ws) vs = true ↔ ∃ v vs', vs = v :: vs' ∧ v < 2 ^ w ∧ operandsFit ws vs' = true := by
  cases vs with
  | nil => simp [operandsFit]
  | cons v vs => simp [operandsFit, and_assoc]

/-- The command `i` has the mnemonic `m` (R93) and the operands `vs` (R105). -/
def IsCommandOf (i : Instr) (m : String) (vs : List Nat) : Prop :=
  ∃ r, opcodeTable[(opcodeOf i).toNat]? = some r ∧ r.mnemonic = m ∧ operandValues i = vs

/-- Operands that fit the fields of a known mnemonic give a command with this mnemonic and these operands: no operand is
cut. One case per group of mnemonics with the same operands. -/
theorem instrOf_of_operandsFit {m : String} {ws vs : List Nat} (hws : operandWidths m = some ws)
    (hfit : operandsFit ws vs = true) : ∃ i, instrOf m vs = some i ∧ IsCommandOf i m vs := by
  unfold operandWidths at hws
  split_ifs at hws with himm hcell hpress hstage hfill hgetv hpbrv hnone
  all_goals
    obtain rfl := Option.some.inj hws
    simp only [operandsFit_cons, operandsFit_nil] at hfit
  · obtain ⟨a, _, rfl, ha, rfl⟩ := hfit
    fin_cases himm
    all_goals exact ⟨_, rfl, _, rfl, rfl, by simpa [operandValues] using ha⟩
  · obtain ⟨a, _, rfl, ha, b, _, rfl, hb, rfl⟩ := hfit
    fin_cases hcell
    all_goals exact ⟨_, rfl, _, rfl, rfl, by simpa [operandValues] using ⟨ha, hb⟩⟩
  · obtain ⟨a, _, rfl, ha, b, _, rfl, hb, c, _, rfl, hc, rfl⟩ := hfit
    subst hpress
    exact ⟨_, rfl, _, rfl, rfl, by simpa [operandValues] using ⟨ha, hb, hc⟩⟩
  · obtain ⟨a, _, rfl, ha, b, _, rfl, hb, rfl⟩ := hfit
    subst hstage
    exact ⟨_, rfl, _, rfl, rfl, by simpa [operandValues] using ⟨ha, hb⟩⟩
  · obtain ⟨a, _, rfl, ha, rfl⟩ := hfit
    subst hfill
    exact ⟨_, rfl, _, rfl, rfl, by simpa [operandValues] using ha⟩
  · obtain ⟨a, _, rfl, ha, rfl⟩ := hfit
    subst hgetv
    exact ⟨_, rfl, _, rfl, rfl, by simpa [operandValues] using ha⟩
  · obtain ⟨a, _, rfl, ha, b, _, rfl, hb, rfl⟩ := hfit
    subst hpbrv
    exact ⟨_, rfl, _, rfl, rfl, by simpa [operandValues] using ⟨ha, hb⟩⟩
  · subst hfit
    fin_cases hnone
    all_goals exact ⟨_, rfl, _, rfl, rfl, rfl⟩

/-- What an assembler does with a line it refuses (R105). -/
theorem assembleLine_of_not_wf {n : Nat} {l : AsmLine} (h : l.wf n = false) : assembleLine n l = none := by
  simp [assembleLine, lineInstrs, h]

theorem assembleLine_cmd {n : Nat} {m : String} {vs : List Nat} {i : Instr} (h : AsmLine.wf n (.cmd m vs) = true)
    (hi : instrOf m vs = some i) : assembleLine n (.cmd m vs) = some [encode i] := by
  simp [assembleLine, lineInstrs, h, hi]

/-- Settles O55: the widths of an accepted line's mnemonic are those of its command's fields. -/
theorem acceptedLinesAssemble : Obligations.AcceptedLinesAssemble := by
  intro n m vs
  refine ⟨fun hwf => ?_, assembleLine_of_not_wf⟩
  obtain ⟨ws, hws, hfit⟩ := (Option.any_eq_true ..).mp hwf
  obtain ⟨i, hi, r, hr, hm, hvs⟩ := instrOf_of_operandsFit hws hfit
  exact ⟨i, r, assembleLine_cmd hwf hi, hr, hm, hvs⟩

/-! ### STAGE and FILL that are not refused -/

/-- STAGE with operands in their domains (R152, R243). -/
theorem after_stage {s : State} {k : VoiceIdx} {ch : Channel} (hk : k.toNat < s.params.n) (hch : ch.toNat ≤ 16) :
    after (.stage k ch) s = finish .ok 0 (writeStage s k ch) :=
  after_eq (if_pos (by simp [indexLegal, channelLegal, hk, hch]))

/-- The first FILL, of a list no longer than the pool (R153, R243). -/
theorem after_fill {s : State} {len : BitVec 4} (hf : s.filled = false) (hlen : len.toNat ≤ s.params.n) :
    after (.fill len) s = finish .ok 0 ((assignVoices len s).setFilled true) :=
  after_eq (by simp [exec, execFill, hf, lengthLegal, hlen, answerOk_eq])

/-! ### The STAGE commands of a FILLV -/

theorem runInstrs_append (is js : List Instr) (s : State) : runInstrs (is ++ js) s = runInstrs js (runInstrs is s) := by
  induction is generalizing s with
  | nil => rfl
  | cons i is ih => exact ih (after i s)

/-- What a FILLV stands for before its FILL (R106). -/
def stageInstrs (cs : List Nat) : List Instr :=
  cs.zipIdx.map (fun ck => .stage (BitVec.ofNat 4 ck.2) (BitVec.ofNat 5 ck.1))

theorem runInstrs_fillvInstrs (cs : List Nat) (s : State) :
    runInstrs (fillvInstrs cs) s = after (.fill (BitVec.ofNat 4 cs.length)) (runInstrs (stageInstrs cs) s) :=
  runInstrs_append ..

theorem runInstrs_stageInstrs_concat (cs : List Nat) (c : Nat) (s : State) :
    runInstrs (stageInstrs (cs ++ [c])) s =
      after (.stage (BitVec.ofNat 4 cs.length) (BitVec.ofNat 5 c)) (runInstrs (stageInstrs cs) s) := by
  simp only [stageInstrs, List.zipIdx_append, List.map_append, runInstrs_append, List.zipIdx_singleton, Nat.zero_add,
    List.map_singleton, runInstrs]

/-- A state with parameters `p` whose channel list holds `cs` and zeros after it, and which but for the channel
list, the response and `cmdidx` is the state after reset. -/
structure Staged (p : Params) (cs : List Nat) (s : State) : Prop where
  length : s.stage.length = p.n
  channel : ∀ k : VoiceIdx, readStage s k = BitVec.ofNat 5 (cs.getD k.toNat 0)
  frame : { s with stage := List.replicate p.n 0, resp := 0, cmdidx := 0 } = State.resetWith p

theorem staged_resetWith (p : Params) : Staged p [] (State.resetWith p) where
  length := List.length_replicate
  channel k := by
    rw [readStage, State.resetWith_stage, List.getD_eq_getElem?_getD, List.getElem?_replicate]
    split <;> rfl
  frame := rfl

section Staged
variable {p : Params} {cs : List Nat} {s : State}

theorem Staged.params (h : Staged p cs s) : s.params = p := congrArg State.params h.frame
theorem Staged.filled (h : Staged p cs s) : s.filled = false := congrArg State.filled h.frame
theorem Staged.stickyErr (h : Staged p cs s) : s.stickyErr = false := congrArg State.stickyErr h.frame
theorem Staged.out (h : Staged p cs s) : s.out = List.replicate p.numSinks [] := congrArg State.out h.frame
theorem Staged.queue (h : Staged p cs s) : s.queue = [] := congrArg State.queue h.frame
theorem Staged.voices (h : Staged p cs s) : s.voices = List.replicate p.n Voice.reset := congrArg State.voices h.frame

end Staged

/-- An index of a pool of at most 14 voices fits the index field (R10). -/
theorem toNat_ofNat_of_le {m : Nat} (hm : m ≤ 14) : (BitVec.ofNat 4 m).toNat = m := by
  rw [BitVec.toNat_ofNat]
  exact Nat.mod_eq_of_lt (by omega)

/-- STAGE of the next entry of the channel list. -/
theorem Staged.concat {p : Params} {cs : List Nat} {c : Nat} {s : State} (h : Staged p cs s) (hn : p.n ≤ 14)
    (hlen : cs.length < p.n) (hc : c ≤ 16) :
    Staged p (cs ++ [c]) (after (.stage (BitVec.ofNat 4 cs.length) (BitVec.ofNat 5 c)) s) := by
  have hidx : (BitVec.ofNat 4 cs.length).toNat = cs.length := toNat_ofNat_of_le (by omega)
  have hch : (BitVec.ofNat 5 c).toNat ≤ 16 := by rw [BitVec.toNat_ofNat]; exact (Nat.mod_le ..).trans hc
  rw [after_stage (by rwa [hidx, h.params]) hch]
  refine ⟨(writeStage_stage_length ..).trans h.length, fun k => ?_, h.frame⟩
  rw [readStage_finish]
  by_cases hk : k = BitVec.ofNat 4 cs.length
  · rw [hk, readStage_writeStage_same _ (by rwa [hidx, h.length]), hidx]
    simp
  · have hne : k.toNat ≠ cs.length := fun e => hk (BitVec.eq_of_toNat_eq (by rw [hidx, e]))
    rw [readStage_writeStage_other _ hk, h.channel]
    grind

theorem staged_runInstrs {p : Params} (hn : p.n ≤ 14) {cs : List Nat} (hlen : cs.length ≤ p.n)
    (hcs : ∀ c ∈ cs, c ≤ 16) : Staged p cs (runInstrs (stageInstrs cs) (State.resetWith p)) := by
  induction cs using List.reverseRecOn with
  | nil => exact staged_resetWith p
  | append_singleton cs c ih =>
    rw [List.length_append, List.length_singleton] at hlen
    rw [runInstrs_stageInstrs_concat]
    exact (ih (by omega) (fun d hd => hcs d (by simp [hd]))).concat hn hlen (hcs c (by simp))

/-! ### The FILL of a FILLV -/

/-- A legal channel fits the channel field, so STAGE does not cut it. -/
theorem toNat_ofNat_getD {cs : List Nat} (hcs : ∀ c ∈ cs, c ≤ 16) (j : Nat) :
    (BitVec.ofNat 5 (cs.getD j 0)).toNat = cs.getD j 0 := by
  have hle : cs.getD j 0 ≤ 16 := by
    rw [List.getD_eq_getElem?_getD]
    cases h : cs[j]? with
    | none => simp
    | some c => exact hcs c (List.mem_of_getElem? h)
  rw [BitVec.toNat_ofNat]
  exact Nat.mod_eq_of_lt (by omega)

/-- FILL's loop over a staged list gives every voice its channel, the voices past the list channel 0 as reset did. -/
theorem readVoice_assignVoices_of_staged {p : Params} {cs : List Nat} {s : State} (h : Staged p cs s) (hn : p.n ≤ 14)
    (hlen : cs.length ≤ p.n) (k : VoiceIdx) :
    readVoice (assignVoices (BitVec.ofNat 4 cs.length) s) k =
      { Voice.reset with channel := BitVec.ofNat 5 (cs.getD k.toNat 0) } := by
  have hidx : (BitVec.ofNat 4 cs.length).toNat = cs.length := toNat_ofNat_of_le (by omega)
  have hread : readVoice s k = Voice.reset := by
    rw [← readVoice_resetWith p k, readVoice, h.voices, readVoice, State.resetWith_voices]
  rw [readVoice_assignVoices (by rw [hidx, h.voices, List.length_replicate]; exact hlen), hidx, hread, h.channel]
  split
  · rfl
  · rw [List.getD_eq_default _ _ (by omega)]
    rfl

/-- Settles O56: STAGE by STAGE the list is staged, and the FILL then finds the voices and the queue as reset left them. -/
theorem fillvEstablishesThePool : Obligations.FillvEstablishesThePool := by
  intro p cs hwf hlen hcs
  have hn := Params.n_le_of_wf hwf
  have hidx : (BitVec.ofNat 4 cs.length).toNat = cs.length := toNat_ofNat_of_le (by omega)
  have hstaged := staged_runInstrs hn hlen hcs
  rw [runInstrs_fillvInstrs]
  generalize runInstrs (stageInstrs cs) (State.resetWith p) = s at hstaged
  rw [after_fill hstaged.filled (by rw [hidx, hstaged.params]; exact hlen)]
  obtain ⟨vs, hassign, -, -⟩ := assignVoices_eq (BitVec.ofNat 4 cs.length) s
  refine ⟨respStatus_respWord .ok 0, rfl, ?_, ?_, fun k => ?_, ?_⟩
  · simpa [hassign] using hstaged.stickyErr
  · simpa [hassign] using hstaged.out
  · rw [readVoice_finish, readVoice_setFilled, readVoice_assignVoices_of_staged hstaged hn hlen]
    exact ⟨toNat_ofNat_getD hcs _, rfl⟩
  · simp only [finish_queue, State.setFilled_queue, hassign, State.setQueue_queue, hstaged.queue, List.nil_append, hidx]
    refine List.filter_congr fun k _ => ?_
    rw [hstaged.channel, Bool.eq_iff_iff, bne_iff_ne, bne_iff_ne, ne_eq, ← BitVec.toNat_inj, toNat_ofNat_getD hcs]
    rfl

end Sys2Proof.Machine
end

section
/-! SUPPORT. The pitch-bend calculator (40_tuning.md): a cell's note and bend as numbers (R121, R122), the cache they make
(R120), the four commands that write or read it (R126 to R129), and the unison law (R130). -/

namespace Sys2Proof.Machine

/-! ### One cell -/

/-- The saturated note number, which fits in 7 bits (R121). -/
theorem cellNote_toNat (base : Midi7) (offset : BitVec 4) :
    (cellNote base offset).toNat = min 127 (base.toNat + offset.toNat) := by
  rw [cellNote, BitVec.toNat_ofNat]
  exact Nat.mod_eq_of_lt (by omega)

/-- A 32-bit deviation over a divisor that is 0 or at least `2^19` has a 13-bit quotient. -/
theorem dev_div_le (dev : BitVec 32) (range : Midi7) : dev.toNat / (range.toNat * 2 ^ 19) ≤ 8191 := by
  rcases Nat.eq_zero_or_pos range.toNat with hzero | hpos
  · simp [hzero]
  · have hdev := dev.isLt
    calc dev.toNat / (range.toNat * 2 ^ 19)
        ≤ dev.toNat / 2 ^ 19 := Nat.div_le_div_left (Nat.le_mul_of_pos_left _ hpos) (by decide)
      _ ≤ 8191 := by omega

/-- The bend, which fits in 14 bits, at every range: range 0 too, where the quotient is 0 (R122). -/
theorem cellBend_toNat (dev : BitVec 32) (range : Midi7) :
    (cellBend dev range).toNat = dev.toNat / (range.toNat * 2 ^ 19) + 8192 := by
  have hquot := dev_div_le dev range
  rw [cellBend, BitVec.toNat_ofNat, Nat.shiftLeft_eq]
  exact Nat.mod_eq_of_lt (by omega)

/-- A Tone ROM entry of R63 has an offset of at most 11. -/
theorem Tone.offset_le_of_wf {t : Tone} (h : t.wf = true) : t.offset.toNat ≤ 11 := by
  simp only [Tone.wf, Bool.and_eq_true, decide_eq_true_eq] at h
  exact h.2

/-- Settles O10: the saturation fits in 7 bits, and an admissible offset of at most 11 adds to a base of at most 127. -/
theorem cellNoteSaturates : Obligations.CellNoteSaturates := by
  intro base range t
  refine ⟨cellNote_toNat base t.offset, rfl, fun hwf => ?_⟩
  have hoffset := Tone.offset_le_of_wf hwf
  have hbase := base.isLt
  omega

/-- Settles O11: the bend's formula, its range by the bound of the quotient, the divisor's bounds by those of the range. -/
theorem cellBendIsExactAndInRange : Obligations.CellBendIsExactAndInRange := by
  intro dev range hrange
  have hquot := dev_div_le dev range
  have hpos : range.toNat ≠ 0 := fun h => hrange (BitVec.eq_of_toNat_eq h)
  have hlt := range.isLt
  rw [cellBend_toNat]
  exact ⟨rfl, Nat.le_add_left _ _, by omega, by omega, by omega⟩

/-! ### The commands of the Diamond -/

/-- UpdateNotes leaves in every cell the function of the two registers and the cell's own Tone ROM entry (R120). -/
theorem readNote_updateNotes (s : State) (row col : Coord) :
    readNote (updateNotes s) row col = cellOf s.baseNote s.pbRange (readTone s row col) :=
  noteCache_get s.baseNote s.pbRange s.params.toneRom (cellIndex row col)

/-- The same as numbers (R121, R122). -/
theorem readNote_updateNotes_toNat (s : State) (row col : Coord) :
    (readNote (updateNotes s) row col).note.toNat = min 127 (s.baseNote.toNat + (readTone s row col).offset.toNat) ∧
    (readNote (updateNotes s) row col).bend.toNat =
      (readTone s row col).dev.toNat / (s.pbRange.toNat * 2 ^ 19) + 8192 := by
  rw [readNote_updateNotes]
  exact ⟨cellNote_toNat _ _, cellBend_toNat _ _⟩

/-- Settles O12: SETBASE ends OK in the state UpdateNotes leaves after the write of the base note. -/
theorem setbaseRecomputesEveryCell : Obligations.SetbaseRecomputesEveryCell := by
  intro note s
  exact ⟨_, answerOk_eq 0 (updateNotes (s.setBaseNote note)), rfl, readNote_updateNotes_toNat (s.setBaseNote note),
    respWord_ok_zero, rfl, rfl⟩

/-- SETRANGE with a range above 0 is not refused (R127, R243). -/
theorem exec_setrange_of_ne_zero {range : Midi7} (hrange : range ≠ 0) (s : State) :
    exec (.setrange range) s = .next (finish .ok 0 (updateNotes (s.setPbRange range))) :=
  if_pos (by simpa [rangeLegal] using hrange)

/-- Settles O13: SETRANGE ends OK in the state UpdateNotes leaves after the write of the range. -/
theorem setrangeRecomputesEveryCell : Obligations.SetrangeRecomputesEveryCell := by
  intro range s hrange
  exact ⟨_, exec_setrange_of_ne_zero hrange s, rfl, readNote_updateNotes_toNat (s.setPbRange range),
    respWord_ok_zero, rfl, rfl⟩

/-- Settles O14: GETNOTE ends OK with the cell's payload and no other effect. -/
theorem getnoteAnswersTheCell : Obligations.GetnoteAnswersTheCell := by
  intro row col s
  refine ⟨_, answerOk_eq (notePayload (readNote s row col)) s, ?_, rfl, rfl⟩
  rw [finish_resp, respWord_ok_toNat, notePayload_toNat]

/-- Settles O15: ROMRD ends OK with the entry's payload and no other effect. -/
theorem romrdAnswersTheEntry : Obligations.RomrdAnswersTheEntry := by
  intro row col s
  refine ⟨_, answerOk_eq (tonePayload (readTone s row col)) s, ?_, rfl, rfl⟩
  rw [finish_resp, respWord_ok_toNat, tonePayload_toNat]

/-! ### The cache of a reachable state -/

/-- Well-formed parameters have an admissible Tone ROM (R10). -/
theorem Params.toneRom_wf_of_wf {p : Params} (h : p.wf = true) : ToneRom.wf p.toneRom = true := by
  simp only [Params.wf, Bool.and_eq_true] at h
  exact h.2

/-- The diagonal of an admissible Tone ROM is the unison (R63 item 1). -/
theorem romRead_diagonal {rom : ToneRom} (h : ToneRom.wf rom = true) (d : Coord) :
    romRead rom (cellIndex d d) = Tone.unison := by
  simp only [ToneRom.wf, Bool.and_eq_true, List.all_eq_true, List.mem_range, decide_eq_true_eq] at h
  obtain ⟨⟨⟨⟨-, hdiag⟩, -⟩, -⟩, -⟩ := h
  obtain ⟨_, hget⟩ := List.getElem?_eq_some_iff.mp (hdiag d.toNat d.isLt)
  simpa [romRead, cellIndex] using hget

/-- The unison cell holds the base note with no bend, whatever the range (R130). -/
theorem cellOf_unison (base range : Midi7) : cellOf base range Tone.unison = { note := base, bend := 8192 } := by
  have hnote : cellNote base 0 = base := BitVec.eq_of_toNat_eq <| by
    rw [cellNote_toNat]
    simpa using Nat.le_of_lt_succ base.isLt
  have hbend : cellBend 0 range = 8192 := BitVec.eq_of_toNat_eq <| by
    rw [cellBend_toNat]
    simp
  rw [cellOf, Tone.unison, hnote, hbend]

/-- The tuning invariants hold at reset, every step keeps them, and the host writes nothing they speak of. -/
theorem Reachable.tuningInv {p : Params} (hwf : p.wf = true) {s : State} (h : Reachable p s) : TuningInv s := by
  induction h with
  | reset => exact tuningInv_resetWith (Params.cfgPbRange_ne_zero_of_wf hwf)
  | step hs hstep ih =>
    refine stepKeepsTuningInvariant _ _ ?_ ih hstep
    rw [(hs.reachableInv hwf).params]
    exact hwf
  | hostWrites ws _ ih => exact ⟨ih.rangeNotZero, ih.cacheCurrent⟩
  | hostResets _ ih => exact ⟨ih.rangeNotZero, ih.cacheCurrent⟩

/-- Settles O48: the cache is current by the tuning invariants, and its diagonal is computed from unison entries. -/
theorem reachableCacheIsCurrent : Obligations.ReachableCacheIsCurrent := by
  intro p s hwf hs
  have hcell : ∀ a : Fin 64, s.notes[a] = cellOf s.baseNote s.pbRange p.toneRom[a] := fun a => by
    rw [(hs.tuningInv hwf).cacheCurrent, noteCache_get, (hs.reachableInv hwf).params]
  refine ⟨hcell, fun d => ?_⟩
  calc readNote s d d
      = cellOf s.baseNote s.pbRange (romRead p.toneRom (cellIndex d d)) := hcell (cellIndex d d)
    _ = cellOf s.baseNote s.pbRange Tone.unison := by rw [romRead_diagonal (Params.toneRom_wf_of_wf hwf)]
    _ = { note := s.baseNote, bend := 8192 } := cellOf_unison _ _

end Sys2Proof.Machine
end

section
/-! SUPPORT. The voice pool (41_voice_pool.md): the answers of STAGE, FILL, TAKE, RELV and GETV (R152 to R158), the order in
which voices come back (R159), releases at duplicate coordinates (R161) and the exhausted pool (R162). -/

namespace Sys2Proof.Machine

/-! ### A voice response -/

/-- A command that ends OK with a voice payload responds with that voice (R99). -/
theorem respWord_voicePayload_toNat (s : State) (k : VoiceIdx) :
    (respWord .ok (voicePayload s k)).toNat = voiceResponseValue k (readVoice s k) := by
  rw [respWord_ok_toNat, voicePayload_toNat]

/-- The fields below VIDX fill 58 bits (R99). -/
theorem voiceResponseValue_div (k : VoiceIdx) (v : Voice) : voiceResponseValue k v / 2 ^ 58 = k.toNat := by
  have hchannel := v.channel.isLt
  have hrow := v.row.isLt
  have hcol := v.col.isLt
  have hnote := v.note.isLt
  have hbend := v.bend.isLt
  unfold voiceResponseValue
  split <;> omega

@[simp] theorem reportedVoice_voicePayload (s : State) (k : VoiceIdx) :
    reportedVoice (respWord .ok (voicePayload s k)) = k := by
  apply BitVec.eq_of_toNat_eq
  rw [reportedVoice, BitVec.extractLsb'_toNat, respWord_voicePayload_toNat, Nat.shiftRight_eq_div_pow,
    voiceResponseValue_div, Nat.mod_eq_of_lt k.isLt]

/-! ### Allocation and release, as TakeCore and ReleaseCore leave them -/

section Cores
variable {row col : Coord} {s t : State} {k : VoiceIdx}

theorem after_take (h : takeCore row col s = some (k, t)) : after (.take row col) s = finish .ok (voicePayload t k) t :=
  after_eq (by simp only [exec, execTake, h, answerOk_eq])

/-- TAKE with an empty queue (R156, R162). -/
theorem after_take_of_empty (row col : Coord) (hq : s.queue = []) : after (.take row col) s = finish .absent 0 s :=
  after_eq (by simp only [exec, execTake, takeCore_eq_none.mpr hq, answerAbsent_eq])

/-- TakeCore takes the head of the queue, whatever the coordinates (R154, R161). -/
theorem exists_takeCore {rest : List VoiceIdx} (row col : Coord) (hq : s.queue = k :: rest) :
    ∃ t, takeCore row col s = some (k, t) ∧ t.queue = rest :=
  ⟨_, takeCore_eq_some.mpr ⟨rest, hq, rfl⟩, rfl⟩

/-- PRESS takes the same voice as TAKE and reports it (R189). -/
theorem after_press (vel : Midi7) (h : takeCore row col s = some (k, t)) :
    ∃ u, after (.press row col vel) s = finish .ok (voicePayload u k) u :=
  ⟨_, after_eq (by simp only [exec, execPress, h, answerOk_eq]; rfl)⟩

/-- The voice TakeCore takes is stamped, every other as before (R154). -/
theorem readVoice_takeCore (h : takeCore row col s = some (k, t)) (hk : k.toNat < s.voices.length) (j : VoiceIdx) :
    readVoice t j = if j = k then takenVoice (readVoice s k) row col else readVoice s j := by
  obtain ⟨rest, -, rfl⟩ := takeCore_eq_some.mp h
  simp only [readVoice_setNumTaken, readVoice_setQueue, readVoice_writeVoice, hk, and_true]

/-- The voice ReleaseCore releases keeps every other field, every other voice is as before (R155). -/
theorem readVoice_releaseCore (h : releaseCore row col s = some (k, t)) (hk : k.toNat < s.voices.length) (j : VoiceIdx) :
    readVoice t j = if j = k then releasedVoice (readVoice s k) else readVoice s j := by
  obtain ⟨-, rfl⟩ := releaseCore_eq_some.mp h
  simp only [readVoice_setNumTaken, readVoice_setQueue, readVoice_writeVoice, hk, and_true]

/-- ReleaseCore succeeds where its scan finds a voice (R155). -/
theorem exists_releaseCore (hfind : findHeld row col s = some k) : ∃ t, releaseCore row col s = some (k, t) :=
  ⟨_, releaseCore_eq_some.mpr ⟨hfind, rfl⟩⟩

theorem after_relv (h : releaseCore row col s = some (k, t)) : after (.relv row col) s = finish .ok (voicePayload t k) t :=
  after_eq (by simp only [exec, execRelv, h, answerOk_eq])

/-- RELV and UNPRESS, the commands that release. -/
abbrev isRelease (row col : Coord) (i : Instr) : Prop := i = .relv row col ∨ i = .unpress row col

/-- A release that finds a voice reports it; beyond ReleaseCore it may only write the logs (R157, R190). -/
theorem after_release {i : Instr} (hi : isRelease row col i) (h : releaseCore row col s = some (k, t)) :
    ∃ out, after i s = finish .ok (voicePayload t k) (t.setOut out) := by
  rcases hi with rfl | rfl
  · exact ⟨t.out, after_relv h⟩
  · exact ⟨_, after_eq (by simp only [exec, execUnpress, h, answerOk_eq, sendNoteOff_eq]; rfl)⟩

/-- A release that finds no voice (R157, R190). -/
theorem after_release_of_none {i : Instr} (hi : isRelease row col i) (h : releaseCore row col s = none) :
    after i s = finish .absent 0 s := by
  rcases hi with rfl | rfl
  · exact after_eq (by simp only [exec, execRelv, h, answerAbsent_eq])
  · exact after_eq (by simp only [exec, execUnpress, h, answerAbsent_eq])

end Cores

/-! ### The five commands -/

theorem exec_of_after {i : Instr} {s t : State} (h : after i s = t) : exec i s = .next t :=
  h ▸ exec_eq_next_after i s

/-- Settles O16: STAGE ends OK in the state the write of the one entry leaves. -/
theorem stageWritesOneEntry : Obligations.StageWritesOneEntry := by
  intro idx ch s hwf hidx hch
  obtain ⟨-, hstage, -⟩ := hwf
  exact ⟨_, exec_of_after (after_stage hidx hch), readStage_writeStage_same ch (hstage ▸ hidx),
    fun j hj => readStage_writeStage_other ch hj, writeStage_stage_length s idx ch, respWord_ok_zero, rfl, rfl⟩

/-- Settles O17: FILL ends OK in the state its loop leaves, with FILLED set. -/
theorem fillAssignsTheStagedChannels : Obligations.FillAssignsTheStagedChannels := by
  intro len s hwf hfilled hlen
  obtain ⟨hvoices, -, -⟩ := hwf
  have hread := readVoice_assignVoices (s := s) (len := len) (hvoices ▸ hlen)
  obtain ⟨vs, hassign, hlength, -⟩ := assignVoices_eq len s
  refine ⟨_, exec_of_after (after_fill hfilled hlen), fun k hk => (hread k).trans (if_pos hk),
    fun k hk => (hread k).trans (if_neg (Nat.not_lt.mpr hk)), ?_, ?_, rfl, respWord_ok_zero, ?_, ?_⟩ <;> rw [hassign]
  · exact hlength
  · rfl
  · rfl
  · rfl

/-- Settles O18: TAKE ends OK in the state TakeCore leaves. -/
theorem takeAllocatesTheHead : Obligations.TakeAllocatesTheHead := by
  intro row col s k rest hq hk
  obtain ⟨t, ht, hrest⟩ := exists_takeCore row col hq
  have hread := readVoice_takeCore ht hk
  refine ⟨_, exec_of_after (after_take ht), (hread k).trans (if_pos rfl), fun j hj => (hread j).trans (if_neg hj), ?_,
    hrest, ?_, respWord_voicePayload_toNat t k, ?_, ?_⟩
  all_goals obtain ⟨-, -, rfl⟩ := takeCore_eq_some.mp ht
  · exact writeVoice_voices_length s k _
  · rfl
  · rfl
  · rw [finish_of_not_setsSticky rfl]
    rfl

/-- Settles O19: RELV ends OK in the state ReleaseCore leaves, whose scan finds the lowest match. -/
theorem relvReleasesTheLowestMatch : Obligations.RelvReleasesTheLowestMatch := by
  intro row col s k hn hwf hk hheld hlowest
  obtain ⟨hvoices, -, -⟩ := hwf
  obtain ⟨t, ht⟩ := exists_releaseCore ((findHeld_eq_some (by omega)).mpr ⟨hk, hheld, hlowest⟩)
  have hread := readVoice_releaseCore ht (hvoices ▸ hk)
  refine ⟨_, exec_of_after (after_relv ht), (hread k).trans (if_pos rfl), fun j hj => (hread j).trans (if_neg hj), ?_,
    ?_, ?_, respWord_voicePayload_toNat t k, ?_, ?_⟩
  all_goals obtain ⟨-, rfl⟩ := releaseCore_eq_some.mp ht
  · exact writeVoice_voices_length s k _
  · rfl
  · rfl
  · rfl
  · rw [finish_of_not_setsSticky rfl]
    rfl

/-- Settles O20: GETV ends OK with the voice's payload and no other effect. -/
theorem getvAnswersTheVoice : Obligations.GetvAnswersTheVoice := by
  intro idx s hidx
  have hget : exec (.getv idx) s = .next (finish .ok (voicePayload s idx) s) := if_pos (decide_eq_true hidx)
  exact ⟨_, hget, respWord_voicePayload_toNat s idx, rfl, rfl⟩

/-! ### The order of the queue -/

/-- As many TAKEs as the queue is long answer it from its head on, whatever the coordinates (R154, R159). -/
theorem takenIndices_eq_queue {coords : List (Coord × Coord)} {s : State} (h : coords.length = s.queue.length) :
    takenIndices coords s = s.queue := by
  induction coords generalizing s with
  | nil => exact (List.eq_nil_of_length_eq_zero h.symm).symm
  | cons rc coords ih =>
    obtain ⟨k, rest, hq⟩ := List.exists_cons_of_length_eq_add_one h.symm
    obtain ⟨t, htake, hrest⟩ := exists_takeCore rc.1 rc.2 hq
    have hlen : coords.length = t.queue.length := by simpa [hq, hrest] using h
    calc takenIndices (rc :: coords) s
        = k :: takenIndices coords (finish .ok (voicePayload t k) t) := by
          rw [takenIndices, after_take htake, finish_resp, reportedVoice_voicePayload]
      _ = k :: t.queue := congrArg (k :: ·) (ih hlen)
      _ = s.queue := by rw [hrest, hq]

/-- A RELV that ends OK puts the voice it reports at the tail of the queue (R155, R157). -/
theorem queue_after_relv {row col : Coord} {s : State} (h : respStatus (after (.relv row col) s).resp = 0) :
    (after (.relv row col) s).queue = s.queue ++ [reportedVoice (after (.relv row col) s).resp] := by
  cases hcore : releaseCore row col s with
  | none =>
    rw [after_release_of_none (.inl rfl) hcore, finish_resp, respStatus_respWord] at h
    cases h
  | some kt =>
    obtain ⟨k, t⟩ := kt
    obtain ⟨-, ht⟩ := releaseCore_eq_some.mp hcore
    rw [after_relv hcore, finish_resp, reportedVoice_voicePayload, finish_queue, ht]
    rfl

/-- Settles O50: each release grows the queue at its tail, and the TAKEs answer the queue in its order. -/
theorem releasedVoicesComeBackInOrder : Obligations.ReleasedVoicesComeBackInOrder := by
  intro s ra ca rb cb coords hfirst hsecond hlen
  have hq := queue_after_relv hsecond
  rw [queue_after_relv hfirst, List.append_assoc] at hq
  rw [takenIndices_eq_queue (by rw [hq]; exact hlen.trans (by simp)), hq]
  rfl

/-! ### Duplicate coordinates -/

/-- The voice ReleaseCore releases is held no longer, every other as before (R155). -/
theorem heldAt_releaseCore {row col : Coord} {s t : State} {k : VoiceIdx} (h : releaseCore row col s = some (k, t))
    (hk : k.toNat < s.voices.length) (l : VoiceIdx) :
    heldAt t row col l = true ↔ heldAt s row col l = true ∧ l ≠ k := by
  have hread := readVoice_releaseCore h hk l
  by_cases hl : l = k
  · subst hl
    simp [heldAt, hread, releasedVoice]
  · simp [heldAt, hread, hl]

/-- The Taken voices at these coordinates are those of `ks`, ascending, in a voice file of the pool's size. -/
structure HeldExactly (row col : Coord) (ks : List VoiceIdx) (s : State) : Prop where
  voices : s.voices.length = s.params.n
  voicesAtMost14 : s.params.n ≤ 14
  ascending : ks.Pairwise (fun j k => j.toNat < k.toNat)
  inPool : ∀ k ∈ ks, k.toNat < s.params.n
  held : ∀ l : VoiceIdx, heldAt s row col l = true ↔ l ∈ ks

section Releases
variable {row col : Coord} {k : VoiceIdx} {ks : List VoiceIdx} {s t : State} {i : Instr}

/-- The scan finds the head of the ascending list (R155). -/
theorem HeldExactly.findHeld_cons (h : HeldExactly row col (k :: ks) s) : findHeld row col s = some k := by
  have hn := h.voicesAtMost14
  obtain ⟨hlt, -⟩ := List.pairwise_cons.mp h.ascending
  have hmem : k ∈ k :: ks := List.mem_cons_self
  refine (findHeld_eq_some (by omega)).mpr ⟨h.inPool k hmem, (h.held k).mpr hmem, fun l hl => ?_⟩
  rw [Bool.eq_false_iff, ne_eq, h.held l, List.mem_cons, not_or]
  exact ⟨fun e => by simp [e] at hl, fun hl' => absurd (hlt l hl') (by omega)⟩

/-- ReleaseCore takes the head off the ascending list. -/
theorem HeldExactly.releaseCore_tail (h : HeldExactly row col (k :: ks) s) (ht : releaseCore row col s = some (k, t)) :
    HeldExactly row col ks t := by
  obtain ⟨hlt, hks⟩ := List.pairwise_cons.mp h.ascending
  have hk : k.toNat < s.voices.length := h.voices ▸ h.inPool k List.mem_cons_self
  obtain ⟨hlength, hparams⟩ : t.voices.length = s.voices.length ∧ t.params = s.params := by
    obtain ⟨-, rfl⟩ := releaseCore_eq_some.mp ht
    exact ⟨writeVoice_voices_length s k _, rfl⟩
  refine ⟨by rw [hlength, hparams, h.voices], by rw [hparams]; exact h.voicesAtMost14, hks,
    fun l hl => by rw [hparams]; exact h.inPool l (List.mem_cons_of_mem k hl), fun l => ?_⟩
  rw [heldAt_releaseCore ht hk, h.held l, List.mem_cons]
  have hne : l ∈ ks → l ≠ k := fun hl e => absurd (hlt l hl) (by simp [e])
  tauto

/-- A release reports the lowest held voice and leaves the others held (R161). -/
theorem HeldExactly.release_cons (h : HeldExactly row col (k :: ks) s) (hi : isRelease row col i) :
    respStatus (after i s).resp = 0 ∧ reportedVoice (after i s).resp = k ∧ HeldExactly row col ks (after i s) := by
  obtain ⟨t, ht⟩ := exists_releaseCore h.findHeld_cons
  obtain ⟨out, hafter⟩ := after_release hi ht
  obtain ⟨hvoices, hn, hks, hpool, hheld⟩ := h.releaseCore_tail ht
  rw [hafter]
  exact ⟨respStatus_respWord .ok _, reportedVoice_voicePayload t k, hvoices, hn, hks, hpool, hheld⟩

/-- A release where no voice is held ends ABSENT (R157, R190). -/
theorem HeldExactly.release_nil (h : HeldExactly row col [] s) (hi : isRelease row col i) :
    respStatus (after i s).resp = 1 := by
  have hnone : ∀ k ∈ voiceIndices s, heldAt s row col k = false := fun k _ => by simpa using h.held k
  rw [after_release_of_none hi (releaseCore_eq_none.mpr hnone)]
  exact respStatus_respWord .absent 0

end Releases

/-- Settles O51: an allocation takes the head of the queue; of the list `[j, k]` of held voices each release takes the head
off, and then none is left. -/
theorem duplicateCoordinatesLowestFirst : Obligations.DuplicateCoordinatesLowestFirst := by
  constructor
  · intro s row col row' col' vel hq
    obtain ⟨k, rest, hq⟩ := List.exists_cons_of_ne_nil hq
    obtain ⟨t, ht, -⟩ := exists_takeCore row col hq
    obtain ⟨t', ht', -⟩ := exists_takeCore row' col' hq
    obtain ⟨u, hu⟩ := after_press vel ht
    rw [after_take ht, after_take ht', hu]
    exact ⟨respStatus_respWord .ok _, respStatus_respWord .ok _,
      (reportedVoice_voicePayload t k).trans (reportedVoice_voicePayload t' k).symm⟩
  · intro s row col j k a b c hwf hn hjk hk hheld hrelease
    obtain ⟨hvoices, -, -⟩ := hwf
    have hs : HeldExactly row col [j, k] s :=
      ⟨hvoices, hn, List.pairwise_pair.mpr hjk, by simpa using ⟨hjk.trans hk, hk⟩, by simpa using hheld⟩
    obtain ⟨hstatusA, hvoiceA, ha⟩ := hs.release_cons (hrelease a (by simp))
    obtain ⟨hstatusB, hvoiceB, hb⟩ := ha.release_cons (hrelease b (by simp))
    exact ⟨hstatusA, hvoiceA, hstatusB, hvoiceB, hb.release_nil (hrelease c (by simp))⟩

/-! ### The exhausted pool -/

/-- TAKE ends ABSENT exactly when the queue is empty (R156). -/
theorem respStatus_after_take_eq_one {row col : Coord} {s : State} :
    respStatus (after (.take row col) s).resp = 1 ↔ s.queue = [] := by
  cases hq : s.queue with
  | nil =>
    rw [after_take_of_empty row col hq, finish_resp, respStatus_respWord]
    exact iff_of_true rfl rfl
  | cons k rest =>
    obtain ⟨t, ht, -⟩ := exists_takeCore row col hq
    rw [after_take ht, finish_resp, respStatus_respWord]
    exact iff_of_false (by decide) (List.cons_ne_nil k rest)

/-- The queue never holds more than N indices (R70): it is as long as there are Free voices. -/
theorem PoolInv.queue_length_le {s : State} (h : PoolInv s) : s.queue.length ≤ s.params.n := by
  rw [h.queue_length]
  exact List.countP_le_length.trans (by simp [voiceIndices])

/-- Settles O52: the queue holds exactly the Free voices, so it is empty when every voice with a channel is Taken. -/
theorem poolIsExhaustedWhenAllAreTaken : Obligations.PoolIsExhaustedWhenAllAreTaken := by
  intro s row col h
  refine ⟨?_, h.queue_length_le⟩
  rw [respStatus_after_take_eq_one, List.eq_nil_iff_forall_not_mem]
  refine forall_congr' fun k => ?_
  rw [h.queueFree.1 k]
  simp [isFree]

end Sys2Proof.Machine
end

section
/-! SUPPORT. The MIDI output (42_midi_output.md): the messages of PRESS and UNPRESS (R187 to R190) and of the configuration
commands (R191 to R198), and how many messages each word sends (R199). -/

namespace Sys2Proof.Machine

/-! ### Sounding and silencing a voice -/

section Voices
variable {row col : Coord} {s t : State} {k : VoiceIdx}

/-- What PRESS makes of the voice it takes (R189): stamped by TakeCore, with the cell's Note. -/
def pressedVoice (v : Voice) (row col : Coord) (n : Note) : Voice :=
  { takenVoice v row col with note := n.note, bend := n.bend }

/-- All PRESS can do with a Free voice of the file (R187, R189): TakeCore's changes, the Note, and the two messages on the
voice's channel. -/
theorem exec_press {rest : List VoiceIdx} (vel : Midi7) (hq : s.queue = k :: rest) (hk : k.toNat < s.voices.length) :
    ∃ u, exec (.press row col vel) s = .next (finish .ok (voicePayload u k) u) ∧
      u = (((writeVoice s k (pressedVoice (readVoice s k) row col (readNote s row col))).setQueue rest).setNumTaken
        (s.numTaken + 1)).setOut (s.out.map (fun log => log ++
          [.pitchBend (readVoice s k).channel (readNote s row col).bend,
           .noteOn (readVoice s k).channel (readNote s row col).note vel])) := by
  have htake := (takeCore_eq_some (row := row) (col := col)).mpr ⟨rest, hq, rfl⟩
  refine ⟨_, by simp only [exec, execPress, htake, answerOk_eq]; rfl, ?_⟩
  simp only [sendNoteOn_eq, loadNote_allocated, readVoice_setNumTaken, readVoice_setQueue, readVoice_writeVoice_same _ hk]
  rfl

/-- Settles O21: PRESS ends OK in the state that TakeCore, the Note and the two messages leave. -/
theorem pressSoundsTheCell : Obligations.PressSoundsTheCell := by
  intro row col vel s k rest hq hk
  obtain ⟨u, hexec, hu⟩ := exec_press (row := row) (col := col) vel hq hk
  refine ⟨_, hexec, ?voice, fun j hj => ?others, ?_, ?_, ?_, ?_, respWord_voicePayload_toNat u k, ?_, ?_⟩
  all_goals subst hu
  case voice => simp [readVoice_writeVoice_same _ hk, pressedVoice, takenVoice]
  case others => simp [readVoice_writeVoice_other _ hj]
  -- the remaining fields and the frame, by the laws of the state's updates
  all_goals simp

/-- All UNPRESS can do where ReleaseCore finds a voice of the file (R188, R190): the release, then one message, the Note-Off of
the Note the voice keeps. -/
theorem exec_unpress (h : releaseCore row col s = some (k, t)) (hk : k.toNat < s.voices.length) :
    exec (.unpress row col) s = .next (finish .ok (voicePayload t k) (t.setOut (s.out.map (fun log => log ++
      [.noteOff (readVoice s k).channel (readVoice s k).note 0])))) := by
  have hreleased : readVoice t k = releasedVoice (readVoice s k) := (readVoice_releaseCore h hk k).trans (if_pos rfl)
  have hout : t.out = s.out := by
    obtain ⟨-, rfl⟩ := releaseCore_eq_some.mp h
    rfl
  simp only [exec, execUnpress, h, answerOk_eq, sendNoteOff_eq, hreleased, hout]
  rfl

/-- Settles O22: UNPRESS ends OK in the state ReleaseCore and the Note-Off leave. -/
theorem unpressSilencesTheVoice : Obligations.UnpressSilencesTheVoice := by
  intro row col s k hn hwf hk hheld hlowest
  obtain ⟨hvoices, -, -⟩ := hwf
  have hfile : k.toNat < s.voices.length := hvoices ▸ hk
  obtain ⟨t, ht⟩ := exists_releaseCore ((findHeld_eq_some (by omega)).mpr ⟨hk, hheld, hlowest⟩)
  have hread := readVoice_releaseCore ht hfile
  refine ⟨_, exec_unpress ht hfile, (hread k).trans (if_pos rfl), fun j hj => (hread j).trans (if_neg hj), ?_, ?_, ?_, ?_,
    respWord_voicePayload_toNat t k, ?_, ?_⟩
  -- the remaining fields and the frame, by the laws of the state's updates
  all_goals obtain ⟨-, rfl⟩ := releaseCore_eq_some.mp ht
  all_goals simp

end Voices

/-! ### Commands that only send -/

/-- The state in which a command that only sends the messages `ms` ends. -/
def sent (ms : List Msg) (s : State) : State := finish .ok 0 (emitAll ms s)

theorem sent_eq (ms : List Msg) (s : State) :
    sent ms s = { s with out := s.out.map (fun log => log ++ ms), resp := 0, cmdidx := s.cmdidx + 1 } := by
  rw [sent, emitAll_eq, finish_of_not_setsSticky rfl]
  rfl

@[simp] theorem sent_out (ms : List Msg) (s : State) : (sent ms s).out = s.out.map (fun log => log ++ ms) := by
  rw [sent_eq]
@[simp] theorem sent_zone (ms : List Msg) (s : State) : (sent ms s).zone = s.zone := by rw [sent_eq]
@[simp] theorem sent_params (ms : List Msg) (s : State) : (sent ms s).params = s.params := by rw [sent_eq]

theorem exec_mcm (s : State) : exec .mcm s = .next (sent (mcmMsgs s.zone s.numChannels) s) := rfl
theorem exec_mono (s : State) : exec .mono s = .next (sent (monoMsgs s.zone) s) := rfl
theorem exec_poly (s : State) : exec .poly s = .next (sent (polyMsgs s.zone) s) := rfl

section Ranges
variable {range : Midi7} (hrange : range ≠ 0) (s : State)
include hrange

theorem exec_pbrz_of_ne_zero :
    exec (.pbrz range) s = .next (sent (pbrMsgs s.params.pbrForm (masterChannel s.zone) range) s) :=
  if_pos (by simpa [rangeLegal] using hrange)

theorem exec_initmpe_of_ne_zero : exec (.initmpe range) s = .next (sent (initMpeMsgs s range) s) :=
  if_pos (by simpa [rangeLegal] using hrange)

/-- PBRV is neither refused nor ABSENT for a voice of the pool that has a channel (R196). -/
theorem exec_pbrv_of_assigned {k : VoiceIdx} (hk : k.toNat < s.params.n) (hassigned : (readVoice s k).channel ≠ 0) :
    exec (.pbrv k range) s = .next (sent (pbrMsgs s.params.pbrForm (readVoice s k).channel range) s) := by
  simp only [exec, execPbrv, rangeLegal, indexLegal, hrange, hk, hassigned, ne_eq, not_false_eq_true, decide_true,
    Bool.and_self, if_true]
  rfl

end Ranges

/-- The master channel in the words of R26. -/
theorem masterChannel_eq (zone : Zone) : masterChannel zone = if zone = .lower then 1 else 16 := by
  cases zone <;> rfl

/-- Settles O23: the three message lists, at the zone's master channel. -/
theorem zoneCommandsSendTheirMessages : Obligations.ZoneCommandsSendTheirMessages := by
  intro s m hm
  rw [← masterChannel_eq] at hm
  subst hm
  rw [exec_mcm, exec_mono, exec_poly]
  simp only [sent_eq]
  exact ⟨rfl, rfl, rfl⟩

/-- Settles O24: either form of the message list, at the zone's master channel. -/
theorem pbrzSendsTheRange : Obligations.PbrzSendsTheRange := by
  intro range s m hrange hm
  rw [← masterChannel_eq] at hm
  subst hm
  rw [exec_pbrz_of_ne_zero hrange, sent_eq]
  exact ⟨fun hform => by rw [hform]; rfl, fun hform => by rw [hform]; rfl⟩

/-- Settles O25: either form of the message list, at the voice's channel. -/
theorem pbrvSendsTheRangeOnTheVoice : Obligations.PbrvSendsTheRangeOnTheVoice := by
  intro idx range s c hrange hidx hc hassigned
  subst hc
  rw [exec_pbrv_of_assigned hrange s hidx hassigned, sent_eq]
  exact ⟨fun hform => by rw [hform]; rfl, fun hform => by rw [hform]; rfl⟩

/-- The hypotheses of O25 can hold together under TRIPLET too: a block of that form whose voice 0 has a channel. -/
theorem pbrv_triplet_witness : let s := runInstrs (fillvInstrs [2]) (State.resetWith { referenceParams with pbrForm := .triplet })
    (127 : Midi7) ≠ 0 ∧ (0 : VoiceIdx).toNat < s.params.n ∧ (readVoice s 0).channel = 2 ∧ s.params.pbrForm = .triplet := by
  decide

/-- Settles O26: what the three commands send in turn is one list, and it is InitMpeSeq's (R197). -/
theorem initmpeSendsMcmPolyPbrz : Obligations.InitmpeSendsMcmPolyPbrz := by
  intro range s hrange
  have hturn : runInstrs [.mcm, .poly, .pbrz range] s =
      sent (pbrMsgs s.params.pbrForm (masterChannel s.zone) range)
        (sent (polyMsgs s.zone) (sent (mcmMsgs s.zone s.numChannels) s)) := by
    simp only [runInstrs, after_eq (exec_mcm s), after_eq (exec_poly _), after_eq (exec_pbrz_of_ne_zero hrange _),
      sent_zone, sent_params]
  refine ⟨_, exec_initmpe_of_ne_zero hrange s, ?_, ?_⟩
  · simp [hturn, initMpeMsgs]
  · rw [sent_eq]
    exact ⟨rfl, rfl, rfl⟩

/-! ### The number of messages -/

/-- A bend range is one message under SINGLE, three under TRIPLET, on whatever channel (R194). -/
theorem pbrMsgs_length (s : State) (ch : Channel) (range : Midi7) :
    (pbrMsgs s.params.pbrForm ch range).length = messageCount (.pbrz range) s := by
  cases hform : s.params.pbrForm <;> simp [pbrMsgs, messageCount, hform]

/-- InitMpeSeq sends four messages and the bend range (R197). -/
theorem initMpeMsgs_length (s : State) (range : Midi7) :
    (initMpeMsgs s range).length = messageCount (.initmpe range) s := by
  rw [initMpeMsgs, List.length_append, pbrMsgs_length]
  rfl

/-- A TICK at SETTLE_CNT 1 sends what INITMPE sends, any other nothing (R199, R223). -/
theorem messageCount_tick (s : State) :
    messageCount .tick s = if s.settleCnt = 1 then messageCount (.initmpe s.pbRange) s else 0 := rfl

/-- All a command does to the logs: each grows by the same messages, as many as R199 says where the command ends OK, none
where it does not. -/
theorem Effect.out_append_count {i : Instr} {s u : State} {st : Status} {payload : Payload} (he : Effect i s st payload u) :
    ∃ ms : List Msg, u.out = s.out.map (fun log => log ++ ms) ∧ ms.length = if st = .ok then messageCount i s else 0 := by
  cases he with
  | refused st hst => exact ⟨[], by simp, by simp [hst]⟩
  | kept payload hi =>
    refine ⟨[], by simp, ?_⟩
    rcases hi with rfl | ⟨row, col, rfl⟩ | ⟨row, col, rfl⟩ | ⟨k, rfl⟩ | rfl | ⟨rfl, hzero⟩
    case inr.inr.inr.inr.inr => simp [messageCount_tick, hzero]
    all_goals rfl
  | fill len hi _ _ =>
    obtain ⟨vs, hfill, -, -⟩ := assignVoices_eq len s
    exact ⟨[], by simp [hfill], by rw [hi]; rfl⟩
  | take row col k rest t hi _ ht => exact ⟨[], by simp [ht], by rw [hi]; rfl⟩
  | relv row col k t hi _ ht => exact ⟨[], by simp [ht], by rw [hi]; rfl⟩
  | press row col vel k rest t hi _ _ => exact ⟨_, rfl, by rw [hi]; rfl⟩
  | unpress row col k t hi _ _ => exact ⟨_, rfl, by rw [hi]; rfl⟩
  | zone ms hms =>
    refine ⟨ms, rfl, ?_⟩
    rcases hms with ⟨rfl, rfl⟩ | ⟨rfl, rfl⟩ | ⟨rfl, rfl⟩ | ⟨range, rfl, rfl⟩ | ⟨range, rfl, rfl⟩
    · rfl
    · rfl
    · rfl
    · exact pbrMsgs_length s _ range
    · exact initMpeMsgs_length s range
  | pbrv k range hi _ => exact ⟨_, rfl, by rw [hi]; exact pbrMsgs_length s _ range⟩
  | countdown hi _ hone => exact ⟨[], by simp, by rw [hi, messageCount_tick, if_neg hone]; rfl⟩
  | fire hi hone => exact ⟨_, rfl, by rw [hi, messageCount_tick, if_pos hone, initMpeMsgs_length]; rfl⟩
  | setbase _ hi | setrange _ hi _ | stage _ _ hi _ _ | connect hi | disconnect hi => exact ⟨[], by simp, by rw [hi]; rfl⟩

/-- Logs that all grow by the same messages grow in total by their number for each sink (R199). -/
theorem sum_length_append (logs : List (List Msg)) (ms : List Msg) :
    ((logs.map (fun log => log ++ ms)).map List.length).sum = (logs.map List.length).sum + logs.length * ms.length := by
  simp [Function.comp_def, List.sum_map_add]

/-- The status field of a finished command reads OK exactly where the command ended OK (R240). -/
theorem respStatus_finish_eq_zero {st : Status} {payload : Payload} {s : State} :
    respStatus (finish st payload s).resp = 0 ↔ st = .ok := by
  rw [finish_resp, respStatus_respWord]
  exact statusCode_injective.eq_iff (b := .ok)

/-- Settles O37, by the two cases of the decoder: an illegal word sends nothing, a command what its effect does to the logs. -/
theorem messageCountsPerCommand : Obligations.MessageCountsPerCommand := by
  intro w s hwf
  obtain ⟨-, -, hsinks⟩ := hwf
  rw [← hsinks]
  cases hd : decode w with
  | error e =>
    rw [perform_of_decode_error hd]
    exact ⟨[], by simp, by simp, rfl⟩
  | ok i =>
    obtain ⟨st, payload, u, hafter, he⟩ := after_effect i s
    obtain ⟨ms, hout, hcount⟩ := he.out_append_count
    rw [perform_of_decode_ok hd, hafter, finish_out, hout]
    refine ⟨ms, rfl, sum_length_append s.out ms, ?_⟩
    simp only [respStatus_finish_eq_zero, hcount]

end Sys2Proof.Machine
end

section
/-! SUPPORT. The control family (43_control.md): what NOP, CONNECT, DISCONNECT, TICK and RDSTAT do (R220 to R224), and the
countdown and its firings over a run of commands (R226). -/

namespace Sys2Proof.Machine

/-! ### NOP, CONNECT and DISCONNECT -/

theorem exec_nop (s : State) : exec .nop s = .next (finish .ok 0 s) := rfl
theorem exec_connect (s : State) : exec .connect s = .next (finish .ok 0 (s.setSettleCnt s.params.settleTicks)) := rfl
theorem exec_disconnect (s : State) : exec .disconnect s = .next (finish .ok 0 (s.setSettleCnt 0)) := rfl

/-- Settles O27: each ends OK in the state its one write, or none, leaves. -/
theorem connectAndDisconnectSetTheCountdown : Obligations.ConnectAndDisconnectSetTheCountdown :=
  fun s => ⟨exec_nop s, exec_connect s, exec_disconnect s⟩

/-! ### TICK -/

section Tick
variable {s : State}

/-- TICK where no countdown runs (R223). -/
theorem exec_tick_of_eq_zero (h : s.settleCnt = 0) : exec .tick s = .next (finish .ok 0 s) := by
  rw [exec, execTick, tickSettle_eq, if_pos h, answerOk_eq]

/-- TICK above 1: the countdown goes on (R223). -/
theorem exec_tick_of_one_lt (h : 1 < s.settleCnt.toNat) :
    exec .tick s = .next (finish .ok 0 (s.setSettleCnt (s.settleCnt - 1))) := by
  have hzero : s.settleCnt ≠ 0 := by bv_omega
  have hone : s.settleCnt ≠ 1 := by bv_omega
  rw [exec, execTick, tickSettle_eq, if_neg hzero, if_neg hone, answerOk_eq]

/-- TICK at 1: the countdown ends and the initMpe sequence goes out with `PB_RANGE` (R223). -/
theorem exec_tick_of_eq_one (h : s.settleCnt = 1) :
    exec .tick s = .next (sent (initMpeMsgs s s.pbRange) (s.setSettleCnt 0)) := by
  rw [exec, execTick, tickSettle_eq, if_neg (by rw [h]; decide), if_pos h, answerOk_eq, sent, emitAll_eq]
  rfl

end Tick

/-- A countdown of 16 bits has ended, is about to, or goes on. -/
theorem settleCnt_cases (s : State) : s.settleCnt = 0 ∨ s.settleCnt = 1 ∨ 1 < s.settleCnt.toNat := by bv_omega

/-- Settles O28, by the three cases of the countdown; INITMPE with the same range sends the same list (R198). -/
theorem tickCountsDownAndFires : Obligations.TickCountsDownAndFires := by
  intro s
  refine ⟨exec_tick_of_eq_zero, fun hlt => ?_, fun hone hrange => ?_⟩
  · refine ⟨_, exec_tick_of_one_lt hlt, ?_, rfl, rfl, rfl⟩
    rw [finish_settleCnt, State.setSettleCnt_settleCnt]
    bv_omega
  · refine ⟨_, exec_tick_of_eq_one hone, ?_, ?_, ?_⟩
    · rw [sent_eq]
      rfl
    · rw [after_eq (exec_initmpe_of_ne_zero hrange s), sent_out, sent_out, State.setSettleCnt_out]
    · rw [sent_eq]
      exact ⟨rfl, rfl, rfl⟩

/-! ### RDSTAT -/

/-- A flag at a place of a payload. -/
theorem flagBit_toNat_mul (b : Bool) (place : Nat) : (flagBit b).toNat * place = if b then place else 0 := by
  cases b <;> simp [flagBit]

/-- `ZONE` at its place of a payload (R24). -/
theorem zoneBit_toNat_mul (zone : Zone) (place : Nat) :
    (zoneBit zone).toNat * place = if zone = .upper then place else 0 := by
  cases zone <;> simp [zoneBit]

/-- The status payload, each field at its place in R102, where the queue's length fits its field. -/
theorem statusPayload_toNat {s : State} (hq : s.queue.length < 16) :
    (statusPayload s).toNat = s.numTaken.toNat * 2 ^ 58 + s.queue.length * 2 ^ 54 + (if s.filled then 2 ^ 53 else 0) +
      (if s.stickyErr then 2 ^ 52 else 0) + (if s.zone = .upper then 2 ^ 51 else 0) + s.baseNote.toNat * 2 ^ 44 +
      s.pbRange.toNat * 2 ^ 37 + s.numChannels.toNat * 2 ^ 30 + s.settleCnt.toNat * 2 ^ 14 := by
  have hqlen : (BitVec.ofNat 4 s.queue.length).toNat = s.queue.length := by
    rw [BitVec.toNat_ofNat]
    exact Nat.mod_eq_of_lt hq
  unfold statusPayload
  simp only [toNat_append_eq, hqlen, ← flagBit_toNat_mul, ← zoneBit_toNat_mul,
    show (0 : BitVec 14).toNat = 0 from rfl]
  ring

/-- Settles O29: RDSTAT ends OK with the status payload and no other effect. -/
theorem rdstatAnswersTheCounters : Obligations.RdstatAnswersTheCounters := by
  intro s hq
  refine ⟨_, answerOk_eq (statusPayload s) s, ?_, rfl, rfl⟩
  rw [finish_resp, respWord_ok_toNat, statusPayload_toNat (by omega)]

/-! ### The countdown over a run of commands -/

/-- Neither CONNECT nor DISCONNECT (R226). -/
abbrev keepsCountdown (i : Instr) : Prop := i ≠ .connect ∧ i ≠ .disconnect

/-- TICK takes one off the countdown, down to 0. -/
theorem settleCnt_after_tick (s : State) : (after .tick s).settleCnt.toNat = s.settleCnt.toNat - 1 := by
  rcases settleCnt_cases s with hzero | hone | hlt
  · rw [after_eq (exec_tick_of_eq_zero hzero), finish_settleCnt, hzero]
    rfl
  · rw [after_eq (exec_tick_of_eq_one hone), sent_eq, hone]
    rfl
  · rw [after_eq (exec_tick_of_one_lt hlt), finish_settleCnt, State.setSettleCnt_settleCnt]
    bv_omega

/-- No command but TICK, CONNECT and DISCONNECT delays or cancels the countdown (R29, R226). -/
theorem settleCnt_after {i : Instr} (hi : keepsCountdown i) (s : State) :
    (after i s).settleCnt.toNat = s.settleCnt.toNat - if i = .tick then 1 else 0 := by
  split
  case isTrue htick => rw [htick, settleCnt_after_tick]
  case isFalse htick =>
    obtain ⟨-, -, -, -, -, -, -, -, -, hwrites, -⟩ := onlyNamedCommandsWriteRegisters i s _ (exec_eq_next_after i s)
    obtain ⟨hconnect, hdisconnect⟩ := hi
    have hkept : (after i s).settleCnt = s.settleCnt := by
      by_contra hne
      simpa [hconnect, hdisconnect, htick] using hwrites hne
    rw [hkept, Nat.sub_zero]

/-- After a run without CONNECT and DISCONNECT the countdown is as many less as there were TICKs, down to 0. -/
theorem settleCnt_runInstrs {is : List Instr} (his : ∀ i ∈ is, keepsCountdown i) (s : State) :
    (runInstrs is s).settleCnt.toNat = s.settleCnt.toNat - is.count .tick := by
  induction is generalizing s with
  | nil => rfl
  | cons i is ih =>
    obtain ⟨hi, his⟩ := List.forall_mem_cons.mp his
    simp only [runInstrs, ih his, settleCnt_after hi, List.count_cons, beq_iff_eq, Nat.sub_sub, Nat.add_comm]

theorem initFires_iff {i : Instr} {s : State} : initFires i s = true ↔ i = .tick ∧ s.settleCnt.toNat = 1 := by
  rw [initFires, Bool.and_eq_true, decide_eq_true_eq, decide_eq_true_eq, ← BitVec.toNat_inj]
  rfl

/-- In a run without CONNECT and DISCONNECT the initialisation fires once where a countdown runs and there are TICKs enough to
end it, otherwise never (R226). -/
theorem firings_eq {is : List Instr} (his : ∀ i ∈ is, keepsCountdown i) (s : State) :
    firings is s = if 0 < s.settleCnt.toNat ∧ s.settleCnt.toNat ≤ is.count .tick then 1 else 0 := by
  induction is generalizing s with
  | nil => rw [firings, List.count_nil, if_neg (by omega)]
  | cons i is ih =>
    obtain ⟨hi, his⟩ := List.forall_mem_cons.mp his
    simp only [firings, initFires_iff, ih his, settleCnt_after hi, List.count_cons, beq_iff_eq]
    by_cases htick : i = .tick
    · simp only [htick, true_and, if_true]
      split_ifs <;> omega
    · simp only [htick, false_and, if_false, Nat.sub_zero, Nat.zero_add, Nat.add_zero]

theorem settleCnt_after_connect (s : State) : (after .connect s).settleCnt = s.params.settleTicks := by
  rw [after_eq (exec_connect s), finish_settleCnt, State.setSettleCnt_settleCnt]

theorem settleCnt_after_disconnect (s : State) : (after .disconnect s).settleCnt = 0 := by
  rw [after_eq (exec_disconnect s), finish_settleCnt, State.setSettleCnt_settleCnt]

/-- Where no countdown runs, none fires until a CONNECT (R226). -/
theorem firings_of_settleCnt_eq_zero {is : List Instr} (his : ∀ i ∈ is, keepsCountdown i) {s : State}
    (h : s.settleCnt = 0) : firings is s = 0 := by
  rw [firings_eq his, h]
  exact if_neg (by simp)

/-- Settles O30: CONNECT loads the countdown, DISCONNECT clears it, and the run after them takes off its TICKs. -/
theorem initFiresOnceAfterLastConnect : Obligations.InitFiresOnceAfterLastConnect := by
  intro s is his hticks
  have hpos : 0 < s.params.settleTicks.toNat := Nat.pos_of_ne_zero fun h => hticks (BitVec.eq_of_toNat_eq h)
  have hcount : (runInstrs is (after .connect s)).settleCnt.toNat = s.params.settleTicks.toNat - is.count .tick := by
    rw [settleCnt_runInstrs his, settleCnt_after_connect]
  refine ⟨hcount, ?_, ?_, firings_of_settleCnt_eq_zero his (settleCnt_after_disconnect s),
    firings_of_settleCnt_eq_zero his⟩
  · simp only [initFires_iff, hcount, true_and]
    omega
  · rw [firings_eq his, settleCnt_after_connect]
    simp only [hpos, true_and]

end Sys2Proof.Machine
end

section
/-! SUPPORT. The outcomes of a step (60_exceptions.md): that every step answers (R255, R256), the status each word ends with (R241
to R245), that a word which does not end OK only reports (R246), and the sticky error bit (R247). -/

namespace Sys2Proof.Machine

/-! ### Every step answers -/

/-- The step with no reset asserted and no word issued (R255, R273). -/
theorem step_of_idle {s : State} (hr : s.resetReq = false) (hw : nextWord s = none) : step s = .next s := by
  simp [step, hr, hw]

/-- The step with reset asserted (R270). -/
theorem step_of_reset {s : State} (hr : s.resetReq = true) : step s = .next (resetEvent s) :=
  if_pos hr

/-- Settles O7: the idle branch of the step. -/
theorem idleStateHolds : Obligations.IdleStateHolds :=
  fun _ hr hw => step_of_idle hr hw

/-- Settles O9, by the branches of the step: the reset event, idle, or a word performed. -/
theorem everyStepCompletes : Obligations.EveryStepCompletes := by
  intro s
  cases hr : s.resetReq with
  | true => exact ⟨_, step_of_reset hr⟩
  | false =>
    cases hw : nextWord s with
    | none => exact ⟨_, step_of_idle hr hw⟩
    | some w => exact ⟨_, step_eq_next_perform hr hw⟩

/-! ### The status a command ends with -/

/-- The state `t` is the end of a command with the status `st`. -/
def EndsWith (st : Status) (t : State) : Prop := ∃ payload u, t = finish st payload u

theorem EndsWith.respStatus_eq {st : Status} {t : State} (h : EndsWith st t) : respStatus t.resp = statusCode st := by
  obtain ⟨payload, u, rfl⟩ := h
  rw [finish_resp, respStatus_respWord]

section Ends
variable {i : Instr} {s u : State} {payload : Payload}

/-- A command with one test: OK where it passes, otherwise refused with `st`, PRECOND (R243) or ABSENT (R244). -/
theorem endsWith_tested {test : Bool} {st : Status}
    (h : exec i s = if test then answerOk payload u else .next (finish st 0 s)) :
    EndsWith (if !test then st else .ok) (after i s) := by
  cases test with
  | true => exact ⟨payload, u, after_eq h⟩
  | false => exact ⟨0, s, after_eq h⟩

/-- A command that searches for a voice ends ABSENT exactly where it finds none (R244). -/
theorem endsWith_search {found : Option (VoiceIdx × State)} (hnone : found = none → EndsWith .absent (after i s))
    (hsome : ∀ k t, found = some (k, t) → EndsWith .ok (after i s)) :
    EndsWith (if found.isNone then .absent else .ok) (after i s) := by
  cases found with
  | none => exact hnone rfl
  | some kt => exact hsome kt.1 kt.2 rfl

end Ends

theorem isNone_takeCore (row col : Coord) (s : State) : (takeCore row col s).isNone = s.queue.isEmpty := by
  rw [Bool.eq_iff_iff, Option.isNone_iff_eq_none, takeCore_eq_none, List.isEmpty_iff]

theorem isNone_releaseCore (row col : Coord) (s : State) :
    (releaseCore row col s).isNone = !(voiceIndices s).any (heldAt s row col) := by
  rw [Bool.eq_iff_iff, Option.isNone_iff_eq_none, releaseCore_eq_none]
  simp

/-- PRESS with an empty queue (R189). -/
theorem after_press_of_empty {s : State} (row col : Coord) (vel : Midi7) (hq : s.queue = []) :
    after (.press row col vel) s = finish .absent 0 s :=
  after_eq (by simp only [exec, execPress, takeCore_eq_none.mpr hq, answerAbsent_eq])

/-- A release ends ABSENT exactly where no Taken voice has its coordinates (R157, R190). -/
theorem endsWith_release {i : Instr} {row col : Coord} (hi : isRelease row col i) (s : State) :
    EndsWith (if !(voiceIndices s).any (heldAt s row col) then .absent else .ok) (after i s) := by
  rw [← isNone_releaseCore]
  refine endsWith_search (fun h => ⟨0, s, after_release_of_none hi h⟩) (fun k t h => ?_)
  obtain ⟨out, hafter⟩ := after_release hi h
  exact ⟨_, _, hafter⟩

/-- FILL's two checks: the pool is not yet filled and the list is no longer than the pool (R153, R243). -/
theorem exec_fill (len : BitVec 4) (s : State) : exec (.fill len) s =
    if !s.filled && lengthLegal s.params.n len then answerOk 0 ((assignVoices len s).setFilled true) else raisePrecond s := by
  cases hf : s.filled <;> simp [exec, execFill, hf]

/-- PBRV checks its range before it looks for the voice (R196, R245). -/
theorem endsWith_pbrv (k : VoiceIdx) (range : Midi7) (s : State) :
    EndsWith (expectedStatus (.pbrv k range) s) (after (.pbrv k range) s) := by
  have hfound : (!indexLegal s.params.n k || decide ((readVoice s k).channel = 0)) =
      !(indexLegal s.params.n k && decide ((readVoice s k).channel ≠ 0)) := by
    simp [Bool.not_and]
  cases hr : rangeLegal range with
  | false =>
    simp only [expectedStatus, preconditionBroken, hr, Bool.not_false, if_true]
    exact ⟨0, s, after_eq (by simp [exec, execPbrv, hr, raisePrecond_eq])⟩
  | true =>
    simp only [expectedStatus, preconditionBroken, nothingFound, hr, Bool.not_true, Bool.false_eq_true, if_false, hfound]
    exact endsWith_tested (by rw [exec, execPbrv, if_pos hr, answerAbsent_eq])

/-- Every command ends with the status the lists of R243 and R244 give it, PRECOND before ABSENT (R245). -/
theorem endsWith_expectedStatus (i : Instr) (s : State) : EndsWith (expectedStatus i s) (after i s) := by
  cases i with
  | nop | setbase | getnote | romrd | mcm | mono | poly | connect | disconnect | tick | rdstat => exact ⟨_, _, rfl⟩
  | setrange range => exact endsWith_tested (test := rangeLegal range) rfl
  | pbrz range => exact endsWith_tested (test := rangeLegal range) rfl
  | initmpe range => exact endsWith_tested (test := rangeLegal range) rfl
  | stage k ch =>
    simp only [expectedStatus, preconditionBroken, ← Bool.not_and]
    exact endsWith_tested (test := indexLegal s.params.n k && channelLegal ch) rfl
  | fill len =>
    have hchecks : (s.filled || !lengthLegal s.params.n len) = !(!s.filled && lengthLegal s.params.n len) := by
      rw [Bool.not_and, Bool.not_not]
    simp only [expectedStatus, preconditionBroken, hchecks]
    exact endsWith_tested (exec_fill len s)
  | take row col =>
    change EndsWith (if s.queue.isEmpty then .absent else .ok) _
    rw [← isNone_takeCore row col]
    exact endsWith_search (fun h => ⟨0, s, after_take_of_empty row col (takeCore_eq_none.mp h)⟩)
      (fun k t h => ⟨_, _, after_take h⟩)
  | press row col vel =>
    change EndsWith (if s.queue.isEmpty then .absent else .ok) _
    rw [← isNone_takeCore row col]
    refine endsWith_search (fun h => ⟨0, s, after_press_of_empty row col vel (takeCore_eq_none.mp h)⟩) (fun k t h => ?_)
    obtain ⟨u, hafter⟩ := after_press vel h
    exact ⟨_, _, hafter⟩
  | relv row col => exact endsWith_release (.inl rfl) s
  | unpress row col => exact endsWith_release (.inr rfl) s
  | getv k => exact endsWith_tested (test := indexLegal s.params.n k) rfl
  | pbrv k range => exact endsWith_pbrv k range s

/-- The status bits of the lists' status, as R240 numbers them. -/
theorem statusCode_expectedStatus (i : Instr) (s : State) : statusCode (expectedStatus i s) =
    if preconditionBroken i s then 2 else if nothingFound i s then 1 else 0 := by
  rw [expectedStatus, apply_ite statusCode, apply_ite statusCode]
  rfl

/-- Settles O31, by the two cases of the decoder. -/
theorem statusFollowsTheLists : Obligations.StatusFollowsTheLists := by
  intro w s
  cases hd : decode w with
  | error e =>
    rw [perform_of_decode_error hd, finish_resp, respStatus_respWord]
    rfl
  | ok i =>
    rw [perform_of_decode_ok hd, (endsWith_expectedStatus i s).respStatus_eq]
    exact statusCode_expectedStatus i s

/-! ### What a word that does not end OK leaves -/

/-- A command that does not end OK has no effect beyond its end (R246). -/
theorem Effect.eq_of_ne_ok {i : Instr} {s u : State} {st : Status} {payload : Payload} (he : Effect i s st payload u)
    (hst : st ≠ .ok) : u = s := by
  cases he with
  | refused => rfl
  | _ => exact absurd rfl hst

/-- How a word ends: a state that kept the sticky bit, and is the state before where the status is not OK. -/
theorem perform_ends (w : CmdWord) (s : State) : ∃ st payload u,
    perform w s = finish st payload u ∧ u.stickyErr = s.stickyErr ∧ (st ≠ .ok → u = s) := by
  cases hd : decode w with
  | ok i =>
    obtain ⟨st, payload, u, hafter, he⟩ := after_effect i s
    exact ⟨st, payload, u, by rw [perform_of_decode_ok hd, hafter], he.keepsFixed.stickyErr, he.eq_of_ne_ok⟩
  | error e => exact ⟨.illegal, 0, s, perform_of_decode_error hd s, rfl, fun _ => rfl⟩

/-- Settles O6: the end of an ILLEGAL word, field by field. -/
theorem illegalWordOnlyReports : Obligations.IllegalWordOnlyReports := by
  intro s w e hd
  rw [perform_of_decode_error hd, finish, respWord_illegal, stickyAfter_illegal]
  rfl

/-- Settles O32: the state before is ended, and the end of a command writes three fields, for ABSENT two. -/
theorem refusedWordsChangeNothingElse : Obligations.RefusedWordsChangeNothingElse := by
  intro w s hstatus
  obtain ⟨st, payload, u, hw, -, hkeep⟩ := perform_ends w s
  rw [hw] at hstatus ⊢
  obtain rfl := hkeep (fun hok => hstatus (respStatus_finish_eq_zero.mpr hok))
  refine ⟨rfl, fun habsent => ?_⟩
  rw [finish_resp, respStatus_respWord] at habsent
  obtain rfl : st = .absent := statusCode_injective habsent
  rw [finish_stickyErr, stickyAfter_absent]

/-! ### The sticky error bit -/

/-- The statuses that set the sticky bit are those from 2 up (R240, R247). -/
theorem setsSticky_eq_decide (st : Status) : setsSticky st = decide (2 ≤ (statusCode st).toNat) := by
  cases st <;> rfl

theorem stickyAfter_eq_or (st : Status) (sticky : Bool) : stickyAfter st sticky = (sticky || setsSticky st) := by
  cases h : setsSticky st <;> simp [stickyAfter, h]

/-- STICKY at its place of the status response (R102). -/
theorem getLsbD_respWord_statusPayload (s : State) : (respWord .ok (statusPayload s)).getLsbD 52 = s.stickyErr := by
  have hflag : (flagBit s.stickyErr).getLsbD 0 = s.stickyErr := by
    cases s.stickyErr <;> rfl
  simp only [respWord, statusPayload, if_true, BitVec.getLsbD_append]
  simpa using hflag

/-- Settles O33: the end of a word for the first clause, RDSTAT's answer for the second, the values of R271 for the third. -/
theorem stickyErrorIsSetByErrorsOnly : Obligations.StickyErrorIsSetByErrorsOnly := by
  refine ⟨fun w s => ?_, fun s => ⟨getLsbD_respWord_statusPayload s, rfl⟩, fun s => rfl⟩
  obtain ⟨st, payload, u, hw, hsticky, -⟩ := perform_ends w s
  rw [hw, finish_stickyErr, hsticky, finish_resp, respStatus_respWord, stickyAfter_eq_or, setsSticky_eq_decide]

end Sys2Proof.Machine
end

section
/-! SUPPORT. The reset event (70_reset_and_hazards.md): the values it loads whatever the state was (R270 to R272), and the
invariants the state after reset starts with. -/

namespace Sys2Proof.Machine

/-- Every cell of the note cache as numbers (R121, R122). -/
theorem noteCache_get_toNat (base range : Midi7) (rom : ToneRom) (a : Fin 64) :
    ((noteCache base range rom)[a]).note.toNat = min 127 (base.toNat + (rom[a]).offset.toNat) ∧
    ((noteCache base range rom)[a]).bend.toNat = (rom[a]).dev.toNat / (range.toNat * 2 ^ 19) + 8192 := by
  rw [noteCache_get]
  exact ⟨cellNote_toNat _ _, cellBend_toNat _ _⟩

/-- The reset event gives the reset state of its parameters, with what belongs to the host put back (R271, assumption 4). -/
theorem resetEvent_eq (s : State) :
    resetEvent s = { State.resetWith s.params with cmdidx := s.cmdidx, program := s.program } := rfl

/-- The cache the reset event computes, as numbers (R272, R120). -/
theorem resetEvent_notes_toNat (s : State) (a : Fin 64) :
    ((resetEvent s).notes[a]).note.toNat = min 127 (s.params.cfgBaseNote.toNat + (s.params.toneRom[a]).offset.toNat) ∧
    ((resetEvent s).notes[a]).bend.toNat =
      (s.params.toneRom[a]).dev.toNat / (s.params.cfgPbRange.toNat * 2 ^ 19) + 8192 :=
  noteCache_get_toNat s.params.cfgBaseNote s.params.cfgPbRange s.params.toneRom a

/-- Settles O8: the step is the reset event, whose fields are those of the reset state of its parameters but for the host's two; the
cells are those UpdateNotes computes from the loaded registers. -/
theorem resetEventLoadsResetValues : Obligations.ResetEventLoadsResetValues := by
  intro s hr
  refine ⟨_, step_of_reset hr, ?_⟩
  have hnotes := resetEvent_notes_toNat s
  rw [resetEvent_eq] at hnotes ⊢
  exact ⟨rfl, rfl, rfl, rfl, rfl, rfl, rfl, rfl, rfl, rfl, rfl, hnotes, rfl, rfl, rfl, rfl, rfl, rfl⟩

/-- Settles O46, by the base case of each of the four invariants; only the tuning one rests on the parameters, whose range is
not 0 (R10). -/
theorem resetMeetsOtherInvariants : Obligations.ResetMeetsOtherInvariants :=
  fun p hwf => ⟨tuningInv_resetWith (Params.cfgPbRange_ne_zero_of_wf hwf), controlInv_resetWith p, channelInv_resetWith p,
    logInv_resetWith p⟩

end Sys2Proof.Machine
end
